-- ==== Sys2Proof/Word.lean ====
section
/-! DEFINITION. The word types of the KV412: what the reference treats as bits (link characters, frame words,
user fields) is a bit vector; ticks, offsets, counts and frame numbers are exact integers (00_scope, Arithmetic). -/

namespace Sys2Proof

/-- One link character's eight data bits (R148), or one body character of a frame (R153). -/
abbrev Byte := BitVec 8

/-- A control link L0 to L3. -/
abbrev LinkId := Fin 4

/-- An input lane I0 to I7 or an output lane O0 to O7. -/
abbrev LaneId := Fin 8

/-- A 72-bit frame word (11.1); the first bit sent is the most significant. -/
abbrev FrameWord := BitVec 72

/-- A 24-bit user field, roll tag or CONSTANT value (11.4). -/
abbrev UserField := BitVec 24

end Sys2Proof
end

