-- ==== Sys2Proof/Syntax.lean ====
section
/-! DEFINITION. The commands of the part: one constructor per row of spec/opcode_table.json. A request row carries the
link it is taken on and its body's fields as characters (11.5), valid or not; an event row carries the lane or link it
falls on and what arrives with it. -/

namespace Sys2Proof

/-- A label field (11.4): hh, mm, ss, ff and the flags character (bit 0 drop). -/
structure LabelField where
  hh : Byte
  mm : Byte
  ss : Byte
  ff : Byte
  flags : Byte
  deriving DecidableEq, Repr

/-- The settings characters of a SET OUTPUT body after lane and kind (11.5); the form fixes the body length. -/
inductive OutputFields where
  /-- Body length 2. -/
  | bare
  /-- Body length 4. -/
  | wordclock (sampleRate pull : Byte)
  /-- Body length 11. -/
  | pulse (form rate drop : Byte) (placement duration : BitVec 24)
  /-- Body length 19. -/
  | timecode (rateClass timeline : Byte) (origin : BitVec 48) (label : LabelField) (user : Byte) (value : BitVec 24)
  deriving DecidableEq, Repr

/-- A CONVERT source (11.5): its kind and the 12 characters after it. -/
structure SourceField where
  kind : Byte
  rest : List Byte
  deriving DecidableEq, Repr

/-- The part's commands. The first 35 are the requests of table R182, then the events in the table's order. -/
inductive Instr where
  | status (l : LinkId)
  | readClock (l : LinkId)
  | setHouse (l : LinkId) (rateClass : Byte) (label : LabelField) (atCode : Byte) (tick : BitVec 48)
  | jam (l : LinkId) (lane : Byte)
  | unjam (l : LinkId)
  | setAutojam (l : LinkId) (setting : Byte)
  | setReference (l : LinkId) (source rateClass loop trimMode : Byte) (trim : BitVec 16)
  | readReference (l : LinkId)
  | setInput (l : LinkId) (lane kind rateClass drop role : Byte) (lead : BitVec 16) (window silence : Byte) (tolerance : BitVec 16)
  | readInput (l : LinkId) (lane : Byte)
  | capture (l : LinkId) (lane mode flush : Byte)
  | peek (l : LinkId) (lane count : Byte)
  | setOutput (l : LinkId) (lane kind : Byte) (fields : OutputFields)
  | readOutput (l : LinkId) (lane : Byte)
  | arm (l : LinkId) (scene shot : List Byte) (number : BitVec 16) (flags count : Byte) (slots : List Byte)
  | roll (l : LinkId) (take : BitVec 16)
  | cut (l : LinkId) (take : BitVec 16)
  | close (l : LinkId) (take : BitVec 16)
  | void (l : LinkId) (take : BitVec 16)
  | rate (l : LinkId) (take : BitVec 16) (rating : Byte)
  | mark (l : LinkId) (take : BitVec 16) (tickMode : Byte) (tick : BitVec 48) (code : Byte)
  | readTake (l : LinkId) (take : BitVec 16)
  | listTakes (l : LinkId) (start : Byte)
  | collect (l : LinkId) (take : BitVec 16)
  | clap (l : LinkId)
  | setSlate (l : LinkId) (pointer : Byte) (take : BitVec 16) (display lane cycle duty : Byte) (hold : BitVec 24)
  | readPanel (l : LinkId)
  | setFlash (l : LinkId) (count : Byte) (onTime : BitVec 24) (duty : Byte)
  | readLoose (l : LinkId) (clear : Byte)
  | convert (l : LinkId) (direction : Byte) (sourceA : SourceField) (value : BitVec 48) (sourceB : Option SourceField)
  | setLink (l : LinkId) (link : Byte) (divisor : BitVec 16)
  | setNotices (l : LinkId) (classes level timeout : Byte)
  | save (l : LinkId)
  | restart (l : LinkId)
  | defaults (l : LinkId)
  | startUp
  | houseFull
  | referenceEdge
  | lossExpiry
  | staleExpiry
  | pendingChangeDue
  | wordArrival (i : LaneId) (w : FrameWord)
  | pulseEdge (i : LaneId)
  | missingExpiry (i : LaneId)
  | silenceExpiry (i : LaneId)
  | effectBoundary (o : LaneId)
  | pulseStart (o : LaneId)
  | pulseEnd (o : LaneId)
  | wordComposition (o : LaneId)
  | contactClose
  | contactOpen
  | debounceExpiry
  | burstStep
  | burstEnd
  | holdEnd
  | characterReceived (l : LinkId) (data : Byte) (lead framing : Bool)
  | lineBreak (l : LinkId)
  | characterTaken (l : LinkId)
  | silenceTimerExpiry (l : LinkId)
  | assemblerRefusal (l : LinkId)
  | feederCharacter (l : LinkId)
  | noticeFed (l : LinkId)
  | characterSent (l : LinkId)
  | pauseAsserted (l : LinkId)
  | pauseReleased (l : LinkId)
  | batchExpiry (l : LinkId)
  | writeEnd
  | wordclockRise (o : LaneId)
  | wordclockFall (o : LaneId)
  | breakEnd (l : LinkId)
  deriving DecidableEq, Repr

end Sys2Proof
end

