-- ==== Sys2Proof/WellFormed.lean ====
section
/-! DEFINITION. The checks a command's syntax must pass: every text, slot and source field has the number of characters
that 11.4 and 11.5 give it, so that the request's body has a length the table of R182 allows. Field VALUES are not checked
here: the block that owns the request judges them (R183). -/

namespace Sys2Proof

/-- A CONVERT source has 12 characters after its kind (11.5). -/
def SourceField.wellFormed (f : SourceField) : Bool := f.rest.length == 12

/-- The length checks, per command. -/
def Instr.wellFormed : Instr → Bool
  | .arm _ scene shot _ _ _ slots => scene.length == 8 && shot.length == 4 && slots.length == 8
  | .convert _ _ a _ b => a.wellFormed && b.all SourceField.wellFormed
  | .status _ | .readClock _ | .setHouse .. | .jam .. | .unjam _ | .setAutojam .. | .setReference .. | .readReference _
  | .setInput .. | .readInput .. | .capture .. | .peek .. | .setOutput .. | .readOutput .. | .roll .. | .cut ..
  | .close .. | .void .. | .rate .. | .mark .. | .readTake .. | .listTakes .. | .collect .. | .clap _ | .setSlate ..
  | .readPanel _ | .setFlash .. | .readLoose .. | .setLink .. | .setNotices .. | .save _ | .restart _ | .defaults _
  | .startUp | .houseFull | .referenceEdge | .lossExpiry | .staleExpiry | .pendingChangeDue | .wordArrival ..
  | .pulseEdge _ | .missingExpiry _ | .silenceExpiry _ | .effectBoundary _ | .pulseStart _ | .pulseEnd _
  | .wordComposition _ | .contactClose | .contactOpen | .debounceExpiry | .burstStep | .burstEnd | .holdEnd
  | .characterReceived .. | .lineBreak _ | .characterTaken _ | .silenceTimerExpiry _ | .assemblerRefusal _
  | .feederCharacter _ | .noticeFed _ | .characterSent _ | .pauseAsserted _ | .pauseReleased _ | .batchExpiry _
  | .writeEnd | .wordclockRise _ | .wordclockFall _ | .breakEnd _ => true

end Sys2Proof
end

