-- ==== Sys2Proof/Decode.lean ====
section
/-! DEFINITION. The characters of a request: the kind code and body of every request command (R182, 11.5), the body
lengths the table of R182 allows, and the reading of a complete frame back into its command. The opcode table gives
its rows no bits, so `decodeTableWord` spells no command. -/

namespace Sys2Proof

/-- 11.4: `n` characters of a number, most significant first. -/
def bytesOf : Nat → Nat → List Byte
  | 0, _ => []
  | n + 1, v => BitVec.ofNat 8 (v / 256 ^ n) :: bytesOf n v

/-- 11.4: the number that characters spell, most significant first. -/
def natOf (cs : List Byte) : Nat := cs.foldl (fun a c => a * 256 + c.toNat) 0

/-- The `n` characters from position `k` of a body. -/
def slice (body : List Byte) (k n : Nat) : List Byte := (body.drop k).take n

/-- The character at position `k` of a body. -/
def charAt (body : List Byte) (k : Nat) : Byte := body.getD k 0

/-- The number in the `n` characters from position `k` of a body. -/
def numberAt (body : List Byte) (k n : Nat) : Nat := natOf (slice body k n)

/-- 11.4: the five characters of a label field. -/
def LabelField.chars (f : LabelField) : List Byte := [f.hh, f.mm, f.ss, f.ff, f.flags]

/-- 11.4: the label field at position `k` of a body. -/
def labelAtPos (body : List Byte) (k : Nat) : LabelField :=
  ⟨charAt body k, charAt body (k + 1), charAt body (k + 2), charAt body (k + 3), charAt body (k + 4)⟩

/-- 11.5: the settings characters of a SET OUTPUT body. -/
def OutputFields.chars : OutputFields → List Byte
  | .bare => []
  | .wordclock s p => [s, p]
  | .pulse form r d pl du => [form, r, d] ++ bytesOf 3 pl.toNat ++ bytesOf 3 du.toNat
  | .timecode r tl o lab u v => [r, tl] ++ bytesOf 6 o.toNat ++ lab.chars ++ [u] ++ bytesOf 3 v.toNat

/-- 11.5: the 13 characters of a CONVERT source. -/
def SourceField.chars (f : SourceField) : List Byte := f.kind :: f.rest

/-- R182, 11.5: the kind code and body characters of a request; an event has no frame (kind 0, which names no request). -/
def requestFrame : Instr → Byte × List Byte
  | .status _ => (0x01#8, [])
  | .readClock _ => (0x02#8, [])
  | .setHouse _ c lab a t => (0x03#8, [c] ++ lab.chars ++ [a] ++ bytesOf 6 t.toNat)
  | .jam _ n => (0x04#8, [n])
  | .unjam _ => (0x05#8, [])
  | .setAutojam _ v => (0x06#8, [v])
  | .setReference _ src r lp m t => (0x07#8, [src, r, lp, m] ++ bytesOf 2 t.toNat)
  | .readReference _ => (0x08#8, [])
  | .setInput _ n k r d ro ld w si tol => (0x09#8, [n, k, r, d, ro] ++ bytesOf 2 ld.toNat ++ [w, si] ++ bytesOf 2 tol.toNat)
  | .readInput _ n => (0x0A#8, [n])
  | .capture _ n m f => (0x0B#8, [n, m, f])
  | .peek _ n c => (0x0C#8, [n, c])
  | .setOutput _ n k f => (0x0D#8, [n, k] ++ f.chars)
  | .readOutput _ n => (0x0E#8, [n])
  | .arm _ sc sh num fl c slots => (0x0F#8, sc ++ sh ++ bytesOf 2 num.toNat ++ [fl, c] ++ slots)
  | .roll _ t => (0x10#8, bytesOf 2 t.toNat)
  | .cut _ t => (0x11#8, bytesOf 2 t.toNat)
  | .close _ t => (0x12#8, bytesOf 2 t.toNat)
  | .void _ t => (0x13#8, bytesOf 2 t.toNat)
  | .rate _ t r => (0x14#8, bytesOf 2 t.toNat ++ [r])
  | .mark _ t m k c => (0x15#8, bytesOf 2 t.toNat ++ [m] ++ bytesOf 6 k.toNat ++ [c])
  | .readTake _ t => (0x16#8, bytesOf 2 t.toNat)
  | .listTakes _ p => (0x17#8, [p])
  | .collect _ t => (0x18#8, bytesOf 2 t.toNat)
  | .clap _ => (0x19#8, [])
  | .setSlate _ p t d n c du h => (0x1A#8, [p] ++ bytesOf 2 t.toNat ++ [d, n, c, du] ++ bytesOf 3 h.toNat)
  | .readPanel _ => (0x1B#8, [])
  | .setFlash _ c on d => (0x1C#8, [c] ++ bytesOf 3 on.toNat ++ [d])
  | .readLoose _ c => (0x1D#8, [c])
  | .convert _ d a v b => (0x1E#8, [d] ++ a.chars ++ bytesOf 6 v.toNat ++ (b.map SourceField.chars).getD [])
  | .setLink _ n d => (0x1F#8, [n] ++ bytesOf 2 d.toNat)
  | .setNotices _ c lv t => (0x20#8, [c, lv, t])
  | .save _ => (0x21#8, [])
  | .restart _ => (0x22#8, [])
  | .defaults _ => (0x23#8, [])
  | .startUp | .houseFull | .referenceEdge | .lossExpiry | .staleExpiry | .pendingChangeDue | .wordArrival ..
  | .pulseEdge _ | .missingExpiry _ | .silenceExpiry _ | .effectBoundary _ | .pulseStart _ | .pulseEnd _
  | .wordComposition _ | .contactClose | .contactOpen | .debounceExpiry | .burstStep | .burstEnd | .holdEnd
  | .characterReceived .. | .lineBreak _ | .characterTaken _ | .silenceTimerExpiry _ | .assemblerRefusal _
  | .feederCharacter _ | .noticeFed _ | .characterSent _ | .pauseAsserted _ | .pauseReleased _ | .batchExpiry _
  | .writeEnd | .wordclockRise _ | .wordclockFall _ | .breakEnd _ => (0x00#8, [])

/-- The link a request is taken on; none for an event. -/
def requestLink : Instr → Option LinkId
  | .status l | .readClock l | .setHouse l .. | .jam l _ | .unjam l | .setAutojam l _ | .setReference l .. | .readReference l
  | .setInput l .. | .readInput l _ | .capture l .. | .peek l .. | .setOutput l .. | .readOutput l _ | .arm l .. | .roll l _
  | .cut l _ | .close l _ | .void l _ | .rate l .. | .mark l .. | .readTake l _ | .listTakes l _ | .collect l _ | .clap l
  | .setSlate l .. | .readPanel l | .setFlash l .. | .readLoose l _ | .convert l .. | .setLink l .. | .setNotices l ..
  | .save l | .restart l | .defaults l => some l
  | .startUp | .houseFull | .referenceEdge | .lossExpiry | .staleExpiry | .pendingChangeDue | .wordArrival ..
  | .pulseEdge _ | .missingExpiry _ | .silenceExpiry _ | .effectBoundary _ | .pulseStart _ | .pulseEnd _
  | .wordComposition _ | .contactClose | .contactOpen | .debounceExpiry | .burstStep | .burstEnd | .holdEnd
  | .characterReceived .. | .lineBreak _ | .characterTaken _ | .silenceTimerExpiry _ | .assemblerRefusal _
  | .feederCharacter _ | .noticeFed _ | .characterSent _ | .pauseAsserted _ | .pauseReleased _ | .batchExpiry _
  | .writeEnd | .wordclockRise _ | .wordclockFall _ | .breakEnd _ => none

/-- R182: the body lengths allowed for each kind code; empty for a code that names no request. -/
def allowedLengths (kind : Byte) : List Nat :=
  match kind.toNat with
  | 0x01 | 0x02 | 0x05 | 0x08 | 0x19 | 0x1B | 0x21 | 0x22 | 0x23 => [0]
  | 0x04 | 0x06 | 0x0A | 0x0E | 0x17 | 0x1D => [1]
  | 0x0C | 0x10 | 0x11 | 0x12 | 0x13 | 0x16 | 0x18 => [2]
  | 0x0B | 0x14 | 0x1F | 0x20 => [3]
  | 0x1C => [5]
  | 0x07 => [6]
  | 0x15 | 0x1A => [10]
  | 0x09 => [11]
  | 0x03 => [13]
  | 0x0F => [24]
  | 0x0D => [2, 4, 11, 19]
  | 0x1E => [20, 33]
  | _ => []

/-- R155 check 2: the kind code names a request. -/
def kindNamesRequest (kind : Byte) : Bool := !(allowedLengths kind).isEmpty

/-- 11.5: the SET OUTPUT settings of a body, by its length. -/
def outputFieldsOf (body : List Byte) : OutputFields :=
  match body.length with
  | 4 => .wordclock (charAt body 2) (charAt body 3)
  | 11 => .pulse (charAt body 2) (charAt body 3) (charAt body 4) (BitVec.ofNat 24 (numberAt body 5 3)) (BitVec.ofNat 24 (numberAt body 8 3))
  | 19 => .timecode (charAt body 2) (charAt body 3) (BitVec.ofNat 48 (numberAt body 4 6)) (labelAtPos body 10) (charAt body 15)
      (BitVec.ofNat 24 (numberAt body 16 3))
  | _ => .bare

/-- The two-character take id at the head of a body. -/
def takeIdOf (body : List Byte) : BitVec 16 := BitVec.ofNat 16 (numberAt body 0 2)

/-- R182, 11.5: the command that a complete request frame of link `l` spells; none where the kind code names no request
or the body length is not allowed for it. -/
def decodeRequest (l : LinkId) (kind : Byte) (body : List Byte) : Option Instr :=
  if (allowedLengths kind).contains body.length then
    match kind.toNat with
    | 0x01 => some (.status l)
    | 0x02 => some (.readClock l)
    | 0x03 => some (.setHouse l (charAt body 0) (labelAtPos body 1) (charAt body 6) (BitVec.ofNat 48 (numberAt body 7 6)))
    | 0x04 => some (.jam l (charAt body 0))
    | 0x05 => some (.unjam l)
    | 0x06 => some (.setAutojam l (charAt body 0))
    | 0x07 => some (.setReference l (charAt body 0) (charAt body 1) (charAt body 2) (charAt body 3) (BitVec.ofNat 16 (numberAt body 4 2)))
    | 0x08 => some (.readReference l)
    | 0x09 => some (.setInput l (charAt body 0) (charAt body 1) (charAt body 2) (charAt body 3) (charAt body 4)
        (BitVec.ofNat 16 (numberAt body 5 2)) (charAt body 7) (charAt body 8) (BitVec.ofNat 16 (numberAt body 9 2)))
    | 0x0A => some (.readInput l (charAt body 0))
    | 0x0B => some (.capture l (charAt body 0) (charAt body 1) (charAt body 2))
    | 0x0C => some (.peek l (charAt body 0) (charAt body 1))
    | 0x0D => some (.setOutput l (charAt body 0) (charAt body 1) (outputFieldsOf body))
    | 0x0E => some (.readOutput l (charAt body 0))
    | 0x0F => some (.arm l (slice body 0 8) (slice body 8 4) (BitVec.ofNat 16 (numberAt body 12 2)) (charAt body 14) (charAt body 15)
        (slice body 16 8))
    | 0x10 => some (.roll l (takeIdOf body))
    | 0x11 => some (.cut l (takeIdOf body))
    | 0x12 => some (.close l (takeIdOf body))
    | 0x13 => some (.void l (takeIdOf body))
    | 0x14 => some (.rate l (takeIdOf body) (charAt body 2))
    | 0x15 => some (.mark l (takeIdOf body) (charAt body 2) (BitVec.ofNat 48 (numberAt body 3 6)) (charAt body 9))
    | 0x16 => some (.readTake l (takeIdOf body))
    | 0x17 => some (.listTakes l (charAt body 0))
    | 0x18 => some (.collect l (takeIdOf body))
    | 0x19 => some (.clap l)
    | 0x1A => some (.setSlate l (charAt body 0) (BitVec.ofNat 16 (numberAt body 1 2)) (charAt body 3) (charAt body 4) (charAt body 5)
        (charAt body 6) (BitVec.ofNat 24 (numberAt body 7 3)))
    | 0x1B => some (.readPanel l)
    | 0x1C => some (.setFlash l (charAt body 0) (BitVec.ofNat 24 (numberAt body 1 3)) (charAt body 4))
    | 0x1D => some (.readLoose l (charAt body 0))
    | 0x1E => some (.convert l (charAt body 0) ⟨charAt body 1, slice body 2 12⟩ (BitVec.ofNat 48 (numberAt body 14 6))
        (if body.length = 33 then some ⟨charAt body 20, slice body 21 12⟩ else none))
    | 0x1F => some (.setLink l (charAt body 0) (BitVec.ofNat 16 (numberAt body 1 2)))
    | 0x20 => some (.setNotices l (charAt body 0) (charAt body 1) (charAt body 2))
    | 0x21 => some (.save l)
    | 0x22 => some (.restart l)
    | 0x23 => some (.defaults l)
    | _ => none
  else none

/-- The command a word spells by the table's bits. Every row of spec/opcode_table.json has an empty list of fields and no
fixed bits, so a word spells none. -/
def decodeTableWord (nbits w : Nat) : Option Instr :=
  match nbits, w with
  | _, _ => none

end Sys2Proof
end

