-- ==== Sys2Proof/Config.lean ====
section
/-! DEFINITION. The constants the reference fixes for the one part number, and the one value it leaves open. -/

namespace Sys2Proof.Config

/-- R1, R25: the largest house tick count, 2^48 − 1. -/
abbrev maxTick : Nat := 281474976710655

/-- House ticks in one house second (00_scope, Time base). -/
abbrev ticksPerSecond : Nat := 720000

/-- R24, R28: fine counts in one tick. -/
abbrev finePerTick : Nat := 32

/-- The fine position is kept in units of 10^−8 fine count, so that one oscillator period adds `10^8 + trim` (R24). -/
abbrev fineUnit : Nat := 100000000

/-- R26: the trim stays within −10,000 to +10,000. -/
abbrev trimLimit : Int := 10000

/-- R36: ticks in HOLDOVER until STALE. -/
abbrev staleTicks : Nat := 432000000

/-- R128: debounce of the clap contact. -/
abbrev debounceTicks : Nat := 1440

/-- R129: width of the lockout. -/
abbrev lockoutTicks : Nat := 144000

/-- R169: ticks in one millisecond of the batch timeout. -/
abbrev ticksPerMs : Nat := 720

/-- R176: length of a store write. -/
abbrev writeTicks : Nat := 28800

/-- R143: longest hold time. -/
abbrev holdLimit : Nat := 7200000

/-- R148: the link oscillator over the divisor gives the bit rate. -/
abbrev linkClock : Nat := 691200

/-- R150, R160, R167: depth of the receive FIFO, the transmit FIFO and the notice queue. -/
abbrev fifoDepth : Nat := 32

/-- R149: the bit-rate characters of a SET LINK response for a divisor that does not divide 691,200. The reference
gives the bit rate as 691,200/D and no rounding to a whole number, so the three characters are open.
DESIGN CHOICE (log entry 20): a free value; nothing in Lean can tell what it is. -/
opaque brokenBitRate : Nat → BitVec 24

end Sys2Proof.Config
end

