-- ==== Sys2Proof/Machine/Types.lean ====
section
/-! DEFINITION. The names and records the reference uses for its state: rate codes, labels, timelines, lane settings, take
records, clap sources, notices and the store image, with the two small tables (eight lanes, four links). -/

namespace Sys2Proof.Machine

/-! ### Eight lanes and four links -/

/-- One value for each lane 0 to 7. -/
structure Eight (α : Type) where
  at0 : α
  at1 : α
  at2 : α
  at3 : α
  at4 : α
  at5 : α
  at6 : α
  at7 : α
  deriving DecidableEq, Repr

/-- One value for each link L0 to L3. -/
structure Four (α : Type) where
  at0 : α
  at1 : α
  at2 : α
  at3 : α
  deriving DecidableEq, Repr

/-- The value for lane `i`. -/
def Eight.get {α : Type} (v : Eight α) (i : LaneId) : α :=
  match i with
  | 0 => v.at0
  | 1 => v.at1
  | 2 => v.at2
  | 3 => v.at3
  | 4 => v.at4
  | 5 => v.at5
  | 6 => v.at6
  | 7 => v.at7

/-- The table with lane `i`'s value replaced. -/
def Eight.set {α : Type} (v : Eight α) (i : LaneId) (a : α) : Eight α :=
  match i with
  | 0 => { v with at0 := a }
  | 1 => { v with at1 := a }
  | 2 => { v with at2 := a }
  | 3 => { v with at3 := a }
  | 4 => { v with at4 := a }
  | 5 => { v with at5 := a }
  | 6 => { v with at6 := a }
  | 7 => { v with at7 := a }

/-- Every lane's value through `f`. -/
def Eight.map {α β : Type} (f : α → β) (v : Eight α) : Eight β :=
  ⟨f v.at0, f v.at1, f v.at2, f v.at3, f v.at4, f v.at5, f v.at6, f v.at7⟩

/-- The same value for every lane. -/
def Eight.same {α : Type} (a : α) : Eight α := ⟨a, a, a, a, a, a, a, a⟩

/-- The value for link `l`. -/
def Four.get {α : Type} (v : Four α) (l : LinkId) : α :=
  match l with
  | 0 => v.at0
  | 1 => v.at1
  | 2 => v.at2
  | 3 => v.at3

/-- The table with link `l`'s value replaced. -/
def Four.set {α : Type} (v : Four α) (l : LinkId) (a : α) : Four α :=
  match l with
  | 0 => { v with at0 := a }
  | 1 => { v with at1 := a }
  | 2 => { v with at2 := a }
  | 3 => { v with at3 := a }

/-- Every link's value through `f`. -/
def Four.map {α β : Type} (f : α → β) (v : Four α) : Four β := ⟨f v.at0, f v.at1, f v.at2, f v.at3⟩

/-- The same value for every link. -/
def Four.same {α : Type} (a : α) : Four α := ⟨a, a, a, a⟩

/-- The lanes in order. -/
def allLanes : List LaneId := [0, 1, 2, 3, 4, 5, 6, 7]

/-- The links in order. -/
def allLinks : List LinkId := [0, 1, 2, 3]

/-! ### Picture time (chapter 01) -/

/-- R2: the ten rate codes, in class order. -/
inductive RateCode where
  | f23 | f24 | f25 | f29 | f30 | f47 | f48 | f50 | f59 | f60
  deriving DecidableEq, Repr

/-- A label's four numbers, as sent or received (a received label may be invalid). -/
structure Label where
  hh : Nat
  mm : Nat
  ss : Nat
  ff : Nat
  deriving DecidableEq, Repr

/-- R11: a timeline. -/
structure Timeline where
  rate : RateCode
  drop : Bool
  origin : Nat
  label : Label
  deriving DecidableEq, Repr

/-- R5, R15, R16: a stream of `units` units per `ticks` ticks from a phase origin. -/
structure Stream where
  units : Nat
  ticks : Nat
  origin : Nat
  deriving DecidableEq, Repr

/-- R4: sample rates. -/
inductive SampleRate where
  | s44 | s48 | s88 | s96
  deriving DecidableEq, Repr

/-- R4: audio pull. -/
inductive Pull where
  | straight | up | down
  deriving DecidableEq, Repr

/-! ### House Clock (chapter 02) -/

/-- R27: the reference source. -/
inductive RefSource where
  | off
  | refInput
  | lane (i : LaneId)
  deriving DecidableEq, Repr

/-- R31: what a measurement does to the trim. -/
inductive LoopMode where
  | track | fixed
  deriving DecidableEq, Repr

/-- 2.4: the reference states NONE, ACQUIRE, LOCKED, HOLDOVER. -/
inductive RefState where
  | off | acquire | locked | holdover
  deriving DecidableEq, Repr

/-! ### Timeline Unit (chapter 03) -/

/-- R48: what applied a house change. -/
inductive HouseCause where
  | set | deferred | jam | autojam | unjam
  deriving DecidableEq, Repr

/-- R46: the held house change; `onRolling` says that it is due and waits for the rolling count to fall to 0. -/
structure PendingChange where
  timeline : Timeline
  onRolling : Bool
  deriving DecidableEq, Repr

/-! ### Input lanes (chapter 04) -/

/-- R57: input lane kinds. -/
inductive InKind where
  | off | timecode | pulse
  deriving DecidableEq, Repr

/-- R57: input lane roles. -/
inductive Role where
  | camera | sound | slate | other
  deriving DecidableEq, Repr

/-- R57: an input lane's settings. -/
structure InSettings where
  kind : InKind
  rate : RateCode
  drop : Bool
  role : Role
  lead : Nat
  window : Nat
  silence : Nat
  tolerance : Nat
  deriving DecidableEq, Repr

/-- 4.4: tracking states. -/
inductive Tracking where
  | silent | seeking | tracking
  deriving DecidableEq, Repr

/-- R60: the tag of an arrival. -/
inductive WordTag where
  | good | badCheck | wrongRate | badLabel
  deriving DecidableEq, Repr

/-- 11.1: fields 2 to 10 of a frame word. -/
structure WordFields where
  label : Label
  drop : Bool
  run : Bool
  clap : Bool
  rateClass : Nat
  user : UserField
  deriving DecidableEq, Repr

/-- R60: the latest word, good or error. -/
structure LatestWord where
  tag : WordTag
  arrival : Nat
  deriving DecidableEq, Repr

/-- R60: the latest good word; a PULSE edge has no word fields and frame number 0 here. -/
structure GoodArrival where
  arrival : Nat
  tFrame : Int
  fields : Option WordFields
  frameNo : Nat
  deriving DecidableEq, Repr

/-- R71: the current statistics window; minimum and maximum mean nothing while the count is 0. -/
structure OpenWindow where
  count : Nat
  sum : Int
  low : Int
  high : Int
  deriving DecidableEq, Repr

/-- R71: the published statistics window. -/
structure PublishedWindow where
  low : Int
  high : Int
  mean : Int
  size : Nat
  tick : Nat
  deriving DecidableEq, Repr

/-- R72: the five counters. -/
structure Counters where
  good : Nat
  error : Nat
  missing : Nat
  discontinuity : Nat
  slip : Nat
  deriving DecidableEq, Repr

/-- R76: capture modes. -/
inductive CaptureMode where
  | off | one | continuous
  deriving DecidableEq, Repr

/-- R77: a captured word: 54 field bits and the received CRC, both 0 for a PULSE edge. -/
structure Captured where
  arrival : Nat
  tag : WordTag
  bits : BitVec 54
  check : Byte
  deriving DecidableEq, Repr

/-- R75: causes of a LANE_STATE notice. -/
inductive LaneCause where
  | goodWord | runComplete | discontinuity | errors | silence | setInput
  deriving DecidableEq, Repr

/-! ### Output lanes (chapter 05) -/

/-- R83: a PULSE lane's rate: a rate code or a custom B. -/
inductive PulseRate where
  | code (r : RateCode)
  | custom (b : Nat)
  deriving DecidableEq, Repr

/-- R83: a TIMECODE lane's timeline setting. -/
inductive OutTimeline where
  | follow
  | own (origin : Nat) (label : Label)
  deriving DecidableEq, Repr

/-- R83, R92: a TIMECODE lane's user source. -/
inductive UserSource where
  | constant (v : UserField)
  | take
  deriving DecidableEq, Repr

/-- R83: an output lane's configuration: one kind and its settings. -/
inductive OutConfig where
  | off
  | pulse (rate : PulseRate) (drop : Bool) (placement duration : Nat)
  | timecode (rate : RateCode) (drop : Bool) (timeline : OutTimeline) (user : UserSource)
  | wordclock (sampleRate : SampleRate) (pull : Pull)
  deriving DecidableEq, Repr

/-- A configuration with what the part works out for it: a TIMECODE lane's timeline (derived or own, R87) and a WORDCLOCK
lane's phase origin (R84; 0 for the other kinds). -/
structure OutSetup where
  config : OutConfig
  timeline : Option Timeline
  phase : Nat
  deriving DecidableEq, Repr

/-- R82: output lane states. -/
inductive OutState where
  | off | waiting | running
  deriving DecidableEq, Repr

/-- R88: the word in flight: its composed fields, its check and its end tick. -/
structure InFlight where
  fields : WordFields
  check : Byte
  endTick : Nat
  deriving DecidableEq, Repr

/-! ### Take Table (chapter 06) -/

/-- R112, R127: where a mark or a clap comes from. -/
inductive Origin where
  | link (l : LinkId)
  | lane (i : LaneId)
  | contact
  deriving DecidableEq, Repr

/-- R112: kinds of mark. -/
inductive MarkKind where
  | mark | slip | dropout | secondClap
  deriving DecidableEq, Repr

/-- R112: a mark. -/
structure Mark where
  tick : Nat
  kind : MarkKind
  origin : Origin
  code : Nat
  deriving DecidableEq, Repr

/-- R98: take states. -/
inductive TakeState where
  | armed | rolling | cut | closed
  deriving DecidableEq, Repr

/-- R111: ratings. -/
inductive Rating where
  | unrated | circled | noGood
  deriving DecidableEq, Repr

/-- R99: a participant entry. -/
structure Participant where
  lane : LaneId
  rollTag : Option UserField
  runSeen : Bool
  stopped : Bool
  slips : Nat
  deriving DecidableEq, Repr

/-- R98: a take record; scene and shot are their characters without the padding. -/
structure Take where
  id : Nat
  scene : List Byte
  shot : List Byte
  number : Nat
  state : TakeState
  arming : LinkId
  participants : List Participant
  autoRoll : Bool
  autoCut : Bool
  start : Option Nat
  clap : Option Nat
  endTick : Option Nat
  marks : List Mark
  marksFull : Bool
  rating : Rating
  collected : BitVec 4
  deriving DecidableEq, Repr

/-- R125: causes of a TAKE_STATE notice. -/
inductive TakeCause where
  | arm | roll | autoRoll | cut | autoCut | close | void | evict
  deriving DecidableEq, Repr

/-! ### Slate Unit (chapter 07) -/

/-- R128: contact states OPEN, TIMING (with the closure tick) and HELD. -/
inductive ContactState where
  | opened
  | timing (closure : Nat)
  | held
  deriving DecidableEq, Repr

/-- R132: an entry of the loose ring. -/
structure LooseClap where
  stamp : Nat
  source : Origin
  deriving DecidableEq, Repr

/-- R134: duty codes. -/
inductive DutyCode where
  | d11 | d12 | d13 | d21 | d31 | steady
  deriving DecidableEq, Repr

/-- R134: flash settings. -/
structure FlashSettings where
  count : Nat
  onTime : Nat
  duty : DutyCode
  deriving DecidableEq, Repr

/-- R135: a running burst: its copy of the settings, start tick, pulses not yet begun, phase and tick of the next step. -/
structure Burst where
  settings : FlashSettings
  start : Nat
  toBegin : Nat
  lit : Bool
  nextStep : Nat
  deriving DecidableEq, Repr

/-- R137: the slate take pointer. -/
inductive Pointer where
  | auto
  | take (id : Nat)
  deriving DecidableEq, Repr

/-- R139: display sources. -/
inductive Display where
  | house
  | output (o : LaneId)
  | input (i : LaneId)
  deriving DecidableEq, Repr

/-- R143: panel settings. -/
structure PanelSettings where
  display : Display
  cycle : Nat
  duty : Nat
  hold : Nat
  deriving DecidableEq, Repr

/-- R139: a label as the digits show it, with its drop separator. -/
structure ShownLabel where
  label : Label
  drop : Bool
  deriving DecidableEq, Repr

/-- R142: a hold: its label (none is blank) and its end tick. -/
structure Hold where
  label : Option ShownLabel
  endTick : Nat
  deriving DecidableEq, Repr

/-! ### Links and notices (chapters 08 and 09) -/

/-- R150: the tag of a stored character. -/
inductive RxTag where
  | clean | framing | overrun
  deriving DecidableEq, Repr

/-- R150: a character in the receive FIFO. -/
structure RxChar where
  data : Byte
  lead : Bool
  tag : RxTag
  deriving DecidableEq, Repr

/-- R161: a character in the transmit FIFO. -/
structure TxChar where
  data : Byte
  lead : Bool
  deriving DecidableEq, Repr

/-- R159: the 22 refusal codes, in code order. -/
inductive RefusalCode where
  | badCheck | lineError | incomplete | unknownKind | badLength | badValue | busy | rolling | notTracking | rateMismatch
  | tableFull | openFull | duplicate | noTake | wrongState | rollLimit | laneBusy | badParticipant | range | collected
  | empty | storeFault
  deriving DecidableEq, Repr

/-- R154, R155: what the assembler holds in DONE. -/
inductive HeldOutcome where
  | refusal (kind : Byte) (code : RefusalCode)
  | request (kind : Byte) (body : List Byte)
  deriving DecidableEq, Repr

/-- R154: the frame assembler with the frame in assembly. -/
inductive Assembler where
  | idle
  | length (kind : Byte)
  | body (kind : Byte) (n : Nat) (got : List Byte)
  | check (kind : Byte) (got : List Byte)
  | done (held : HeldOutcome)
  deriving DecidableEq, Repr

/-- Chapter 08: the waiting response: its characters, how many are in the transmit FIFO, and the take state that R105,
R107, R109, R110, R113, R123 and R143 say a WRONG_STATE refusal carries (R153 and R159 give it no character). -/
structure WaitingResponse where
  frame : List TxChar
  fed : Nat
  carried : Option TakeState
  deriving DecidableEq, Repr

/-- R160: the feeder: free, feeding the waiting response, or feeding a notice frame (`entered`: its first character is in
the transmit FIFO) with the characters still to enter. -/
inductive Feeder where
  | free
  | response
  | notice (entered : Bool) (rest : List TxChar)
  deriving DecidableEq, Repr

/-- R149: an own-link divisor awaiting the end of its response; `after` counts the characters the link has still to send
up to and including that response's last one. -/
structure PendingDivisor where
  value : Nat
  after : Nat
  deriving DecidableEq, Repr

/-- R165: notice classes, in bit order. -/
inductive NoticeClass where
  | take | clap | lane | house | store
  deriving DecidableEq, Repr

/-- R175: store states, in the rule's table order. -/
inductive StoreState where
  | blank | incomplete | good
  deriving DecidableEq, Repr

/-- R165, 11.7: a notice's kind, subject and detail. `now = none` in `takeState` is REMOVED. -/
inductive NoticeBody where
  | takeState (id : Nat) (prev now : Option TakeState) (cause : TakeCause) (actor : Origin) (start endTick : Option Nat)
  | autoRollRefused (id : Nat) (lane : LaneId) (code : RefusalCode)
  | marksFull (id tick : Nat) (kind : MarkKind)
  | clap (id stamp : Nat) (source : Origin) (second : Bool)
  | looseClap (stamp : Nat) (source : Origin) (ringCount overwritten : Nat)
  | laneState (lane : LaneId) (prev now : Tracking) (cause : LaneCause) (lock : Option Int)
  | slip (lane : LaneId) (stamp : Nat) (new old : Int) (counter : Nat)
  | dropout (lane : LaneId) (stamp : Nat) (role : Role)
  | houseChanged (cause : HouseCause) (timeline : Timeline) (depth : Nat) (lane : Option LaneId)
  | referenceState (prev now : RefState) (stale : Bool) (trim : Int)
  | saveDone (taken : Nat) (link : LinkId) (store : StoreState) (cleared : Bool)
  deriving DecidableEq, Repr

/-- R165: a notice with its event tick. -/
structure Notice where
  body : NoticeBody
  tick : Nat
  deriving DecidableEq, Repr

/-- R167, R169: a queued notice, its GAP bit and the tick at which it entered the queue. -/
structure QueuedNotice where
  notice : Notice
  gap : Bool
  entered : Nat
  deriving DecidableEq, Repr

/-- R171: a link's notice settings; bit j of `classes` subscribes class j. -/
structure NoticeSettings where
  classes : BitVec 5
  level : Nat
  timeout : Nat
  deriving DecidableEq, Repr

/-! ### Settings Store (chapter 10) -/

/-- R174: the settings image. -/
structure Settings where
  houseRate : RateCode
  houseDrop : Bool
  autoJam : Option LaneId
  refSource : RefSource
  refRate : RateCode
  loop : LoopMode
  trim : Int
  inputs : Eight InSettings
  outputs : Eight OutConfig
  divisors : Four Nat
  notices : Four NoticeSettings
  flash : FlashSettings
  panel : PanelSettings
  deriving DecidableEq, Repr

/-- Chapter 10: a store write in flight. -/
structure StoreWrite where
  snapshot : Settings
  taken : Nat
  endTick : Nat
  link : LinkId
  deriving DecidableEq, Repr

/-! ### The blocks -/

/-- House Clock (chapter 02). `fine` is the fine position within the current tick in units of 10^−8 fine count. -/
structure HouseClock where
  tick : Nat
  full : Bool
  fine : Nat
  trim : Int
  source : RefSource
  refRate : RateCode
  loop : LoopMode
  state : RefState
  limit : Bool
  stale : Bool
  lastCorrection : Option Int
  windowStart : Option Nat
  edgeCount : Nat
  lastEdge : Option Nat
  nextExpected : Option Nat
  inTolerance : Nat
  holdoverSince : Option Nat
  deriving DecidableEq, Repr

/-- Timeline Unit (chapter 03). -/
structure TimelineUnit where
  house : Timeline
  change : Option PendingChange
  history : List Timeline
  autoJam : Option LaneId
  deriving DecidableEq, Repr

/-- One input lane (chapter 04). -/
structure InLane where
  settings : InSettings
  state : Tracking
  seeking : Nat
  missed : Nat
  errorRun : Nat
  latest : Option LatestWord
  good : Option GoodArrival
  expected : Option Timeline
  lock : Option Int
  rebaseline : Bool
  runLevel : Bool
  clapLevel : Bool
  lastOffset : Option Int
  window : OpenWindow
  published : Option PublishedWindow
  counters : Counters
  captureMode : CaptureMode
  captured : List Captured
  overrun : Bool
  deriving DecidableEq, Repr

/-- One output lane (chapter 05). `nextBoundary` is the effect boundary in WAITING; in RUNNING the start of the next frame
or sample the lane acts at. `unitIndex` is a WORDCLOCK lane's next unit. `highUntil` is present while a PULSE or WORDCLOCK
line is high and is the tick at which it next drops. -/
structure OutLane where
  state : OutState
  inForce : Option OutSetup
  waiting : Option OutSetup
  nextBoundary : Option Nat
  unitIndex : Nat
  highUntil : Option Nat
  word : Option InFlight
  clapped : Bool
  deriving DecidableEq, Repr

/-- Take Table (chapter 06): records in arm order; the roll-order list holds take ids. -/
structure TakeTable where
  takes : List Take
  nextId : Nat
  tableCount : Nat
  openCount : Nat
  rollingCount : Nat
  rollOrder : List Nat
  deriving DecidableEq, Repr

/-- Slate Unit (chapter 07). -/
structure SlateUnit where
  contact : ContactState
  lockout : Option Nat
  ring : List LooseClap
  overwritten : Nat
  flash : FlashSettings
  burst : Option Burst
  pointer : Pointer
  panel : PanelSettings
  hold : Option Hold
  deriving DecidableEq, Repr

/-- One link port (chapters 08 and 09). The transmitter's character stays at the head of `tx` until its stop bit is sent. -/
structure LinkPort where
  divisor : Nat
  pendingDivisor : Option PendingDivisor
  inBreak : Bool
  overrunMark : Bool
  rx : List RxChar
  hold : Bool
  assembler : Assembler
  response : Option WaitingResponse
  feeder : Feeder
  tx : List TxChar
  sending : Bool
  pause : Bool
  restartAfter : Option Nat
  notices : NoticeSettings
  queue : List QueuedNotice
  release : Bool
  batchExpiry : Option Nat
  gap : Bool
  changed : BitVec 8
  deriving DecidableEq, Repr

/-- Settings Store (chapter 10). The image is absent until a first write has ended. -/
structure SettingsStore where
  image : Option Settings
  state : StoreState
  write : Option StoreWrite
  fault : Bool
  deriving DecidableEq, Repr

end Sys2Proof.Machine
end

