-- ==== Sys2Proof/Machine/StartValues.lean ====
section
/-! DEFINITION. The factory defaults (R174) and the values a lane, a link and the take table take at start-up. -/

namespace Sys2Proof.Machine

/-- R57: the factory settings of an input lane. -/
def factoryInput : InSettings := ⟨.off, .f24, false, .other, 0, 16, 3, 3000⟩

/-- R171: the factory notice settings. -/
def factoryNotices : NoticeSettings := ⟨31#5, 1, 10⟩

/-- R134: the factory flash settings. -/
def factoryFlash : FlashSettings := ⟨3, 3600, .d11⟩

/-- R143: the factory panel settings. -/
def factoryPanel : PanelSettings := ⟨.house, 16, 50, 1440000⟩

/-- R174, Factory defaults: the settings a part without a usable image starts on. -/
def factorySettings : Settings where
  houseRate := .f24
  houseDrop := false
  autoJam := none
  refSource := .off
  refRate := .f24
  loop := .track
  trim := 0
  inputs := Eight.same factoryInput
  outputs := Eight.same .off
  divisors := Four.same 6
  notices := Four.same factoryNotices
  flash := factoryFlash
  panel := factoryPanel

/-- R71: an empty statistics window. -/
def emptyWindow : OpenWindow := ⟨0, 0, 0, 0⟩

/-- R72: five counters at 0. -/
def zeroCounters : Counters := ⟨0, 0, 0, 0, 0⟩

/-- R81: an input lane after start-up or SET INPUT, with its settings and expected timeline. -/
def clearedInput (set : InSettings) (expected : Option Timeline) : InLane where
  settings := set
  state := .silent
  seeking := 0
  missed := 0
  errorRun := 0
  latest := none
  good := none
  expected := expected
  lock := none
  rebaseline := false
  runLevel := false
  clapLevel := false
  lastOffset := none
  window := emptyWindow
  published := none
  counters := zeroCounters
  captureMode := .off
  captured := []
  overrun := false

/-- R97: an output lane with nothing in force and nothing pending. -/
def blankOutput : OutLane := ⟨.off, none, none, none, 0, none, none, false⟩

/-- R164, R173: a link after start-up, with its divisor, notice settings and the level of its pause input. -/
def clearedLink (divisor : Nat) (notices : NoticeSettings) (pause : Bool) : LinkPort where
  divisor := divisor
  pendingDivisor := none
  inBreak := false
  overrunMark := false
  rx := []
  hold := false
  assembler := .idle
  response := none
  feeder := .free
  tx := []
  sending := false
  pause := pause
  restartAfter := none
  notices := notices
  queue := []
  release := false
  batchExpiry := none
  gap := false
  changed := 0#8

/-- R126: the take table after start-up. -/
def emptyTable : TakeTable := ⟨[], 1, 0, 0, 0, []⟩

end Sys2Proof.Machine
end

