-- ==== Sys2Proof/Machine/State.lean ====
section
/-! DEFINITION. The state of the KV412: one record per block of the block overview (00_scope; the records are in Types),
the queue of waiting commands, the reasons a step can stop, and the state right after reset. -/

namespace Sys2Proof.Machine

/-- The whole part, with the commands that are waiting, first in, first out. -/
structure State where
  pending : List Instr
  hc : HouseClock
  tu : TimelineUnit
  inputs : Eight InLane
  outputs : Eight OutLane
  tt : TakeTable
  su : SlateUnit
  links : Four LinkPort
  store : SettingsStore
  deriving DecidableEq, Repr

/-- The part has no fault: every command has an effect, and the reference names no condition that stops it. Nothing
raises one. -/
inductive Fault where
  deriving DecidableEq, Repr

/-- Why a step could be refused. -/
inductive Refusal where
  /-- A command whose arm gives no meaning. No arm raises it now. Safe: the run stops. -/
  | notModelled (mnemonic : String)
  deriving DecidableEq, Repr

/-! ### The state after reset -/

/-- The part right after its first power-on: the store BLANK, so every setting is the factory default (R178), every block
at its start-up values (R40, R56, R81, R97, R126, R147, R164, R173). The levels of the input pins (contact open, pause
released, receive lines high) are DESIGN CHOICES (log entry 2). -/
def State.reset : State where
  pending := []
  hc :=
    { tick := 0, full := false, fine := 0, trim := 0, source := .off, refRate := .f24, loop := .track, state := .off
      limit := false, stale := false, lastCorrection := none, windowStart := none, edgeCount := 0, lastEdge := none
      nextExpected := none, inTolerance := 0, holdoverSince := none }
  tu := { house := ⟨.f24, false, 0, ⟨0, 0, 0, 0⟩⟩, change := none, history := [], autoJam := none }
  inputs := Eight.same (clearedInput factoryInput none)
  outputs := Eight.same { blankOutput with inForce := some ⟨.off, none, 0⟩ }
  tt := emptyTable
  su :=
    { contact := .opened, lockout := none, ring := [], overwritten := 0, flash := factoryFlash, burst := none
      pointer := .auto, panel := factoryPanel, hold := none }
  links := Four.same (clearedLink 6 factoryNotices false)
  store := { image := none, state := .blank, write := none, fault := false }

end Sys2Proof.Machine
end

