-- ==== Sys2Proof/Machine/Arith.lean ====
section
/-! DEFINITION. Picture-time arithmetic (chapter 01), the follow rule (R42) and the boundary formulas of the output lanes.
All of it is exact integer arithmetic on numbers; nothing here holds state. -/

namespace Sys2Proof.Machine

/-- floor(x/y) rounded up instead: the least whole number at or above x/y. -/
def ceilDiv (x y : Nat) : Nat := (x + (y - 1)) / y

/-! ### Rate codes (R2, R3) -/

/-- R2: the class of a rate code. -/
def RateCode.cls : RateCode → Nat
  | .f23 => 0
  | .f24 => 1
  | .f25 => 2
  | .f29 => 3
  | .f30 => 4
  | .f47 => 5
  | .f48 => 6
  | .f50 => 7
  | .f59 => 8
  | .f60 => 9

/-- R2: the rate code of a class; classes 10 and above name none. -/
def RateCode.ofClass : Nat → Option RateCode
  | 0 => some .f23
  | 1 => some .f24
  | 2 => some .f25
  | 3 => some .f29
  | 4 => some .f30
  | 5 => some .f47
  | 6 => some .f48
  | 7 => some .f50
  | 8 => some .f59
  | 9 => some .f60
  | _ => none

/-- R2: the base integer rate B. -/
def RateCode.base : RateCode → Nat
  | .f23 | .f24 => 24
  | .f25 => 25
  | .f29 | .f30 => 30
  | .f47 | .f48 => 48
  | .f50 => 50
  | .f59 | .f60 => 60

/-- R2: whether the code is pulled. -/
def RateCode.pulled : RateCode → Bool
  | .f23 | .f29 | .f47 | .f59 => true
  | .f24 | .f25 | .f30 | .f48 | .f50 | .f60 => false

/-- R2: the frame period P in ticks: 720,720/B pulled, 720,000/B unpulled. -/
def RateCode.period (r : RateCode) : Nat := if r.pulled then 720720 / r.base else 720000 / r.base

/-- R2: drop mode is allowed for F29 and F59. -/
def RateCode.dropAllowed (r : RateCode) : Bool := r == .f29 || r == .f59

/-- R8, R10: numbers dropped per dropping minute: 2 for B = 30, 4 for B = 60. -/
def RateCode.dropped (r : RateCode) : Nat := if r.base = 60 then 4 else 2

/-- R2: frames per label day; in drop mode less the numbers dropped in 1,296 minutes. -/
def framesPerDay (r : RateCode) (drop : Bool) : Nat :=
  if drop then 86400 * r.base - 1296 * r.dropped else 86400 * r.base

/-- R3: the custom rates a PULSE lane accepts. -/
def customAllowed (b : Nat) : Bool := decide (1 ≤ b) && decide (b ≤ 120) && decide (720000 % b = 0)

/-- R3, R83: the frame period of a PULSE lane's rate. -/
def PulseRate.period : PulseRate → Nat
  | .code r => r.period
  | .custom b => 720000 / b

/-! ### Labels and frame numbers (R6 to R10) -/

/-- R6: a label that drop mode skips. -/
def dropSkips (r : RateCode) (l : Label) : Bool := l.ss == 0 && decide (l.mm % 10 ≠ 0) && decide (l.ff < r.dropped)

/-- R6: a label is valid for a rate code and drop mode. -/
def labelValid (r : RateCode) (drop : Bool) (l : Label) : Bool :=
  decide (l.hh ≤ 23) && decide (l.mm ≤ 59) && decide (l.ss ≤ 59) && decide (l.ff < r.base)
    && (!drop || (r.dropAllowed && !dropSkips r l))

/-- R7, R8 step 1: the non-drop count. -/
def nonDropCount (r : RateCode) (l : Label) : Nat := ((l.hh * 60 + l.mm) * 60 + l.ss) * r.base + l.ff

/-- R7, R8: the frame number of a valid label. -/
def frameNumber (r : RateCode) (drop : Bool) (l : Label) : Nat :=
  let m := 60 * l.hh + l.mm
  if drop then nonDropCount r l - r.dropped * (m - m / 10) else nonDropCount r l

/-- R9: a non-drop frame number split at B. -/
def splitFrames (b n : Nat) : Label :=
  ⟨n / b / 60 / 60, n / b / 60 % 60, n / b % 60, n % b⟩

/-- R10: the skipped numbers added back to a drop-mode frame number. Subtraction of Nat gives the 0 of the rule's max. -/
def dropAdjustment (r : RateCode) (n : Nat) : Nat :=
  let block := 600 * r.base - 9 * r.dropped
  let minute := 60 * r.base - r.dropped
  9 * r.dropped * (n / block) + r.dropped * ((n % block - r.dropped) / minute)

/-- R9, R10: the label of a frame number. -/
def labelOfFrame (r : RateCode) (drop : Bool) (n : Nat) : Label :=
  if drop then splitFrames r.base (n + dropAdjustment r n) else splitFrames r.base n

/-! ### Timelines (R11 to R13) -/

/-- R11: the two checks of a timeline record. -/
def Timeline.valid (tl : Timeline) : Bool := (!tl.drop || tl.rate.dropAllowed) && labelValid tl.rate tl.drop tl.label

/-- R11: the frame number of the origin label. -/
def Timeline.originFrame (tl : Timeline) : Nat := frameNumber tl.rate tl.drop tl.label

/-- R2: frames per label day of the timeline. -/
def Timeline.day (tl : Timeline) : Nat := framesPerDay tl.rate tl.drop

/-- R12 step 2: whole frames from the origin frame, rounded toward negative infinity. -/
def Timeline.framesTo (tl : Timeline) (t : Int) : Int := (t - tl.origin) / (tl.rate.period : Int)

/-- R12 step 3: the subframe. -/
def Timeline.subframeAt (tl : Timeline) (t : Int) : Nat := ((t - tl.origin) % (tl.rate.period : Int)).toNat

/-- R12 step 4: the frame number of the frame holding `t`. -/
def Timeline.frameAt (tl : Timeline) (t : Int) : Nat := ((tl.originFrame + tl.framesTo t) % (tl.day : Int)).toNat

/-- R12 step 5: the label of tick `t`. -/
def Timeline.labelAt (tl : Timeline) (t : Int) : Label := labelOfFrame tl.rate tl.drop (tl.frameAt t)

/-- R13: the first tick at or after the origin of the frame labelled `l` (it may lie above the maximum). -/
def Timeline.tickOf (tl : Timeline) (l : Label) : Nat :=
  tl.origin + (((frameNumber tl.rate tl.drop l : Int) - tl.originFrame) % (tl.day : Int)).toNat * tl.rate.period

/-! ### Streams (R4, R5, R15, R16, R17) -/

/-- R4: samples per second. -/
def SampleRate.hertz : SampleRate → Nat
  | .s44 => 44100
  | .s48 => 48000
  | .s88 => 88200
  | .s96 => 96000

/-- R5: the rational of an audio stream with phase origin `o`. -/
def audioStream (s : SampleRate) (p : Pull) (o : Nat) : Stream :=
  match p with
  | .straight => ⟨s.hertz, 720000, o⟩
  | .up => ⟨s.hertz * 1001, 720000000, o⟩
  | .down => ⟨s.hertz * 1000, 720720000, o⟩

/-- R5, R17: the rational of a rate code with phase origin `o`. -/
def frameStream (r : RateCode) (o : Nat) : Stream :=
  if r.pulled then ⟨r.base * 1000, 720720000, o⟩ else ⟨r.base, 720000, o⟩

/-- R5, R17: the pulse grid of a PULSE lane, phase origin tick 0. -/
def pulseGrid : PulseRate → Stream
  | .code r => frameStream r 0
  | .custom b => ⟨b, 720000, 0⟩

/-- R15: the index at tick `t`, for `t` at or after the phase origin. -/
def Stream.indexAt (st : Stream) (t : Nat) : Nat := (t - st.origin) * st.units / st.ticks

/-- R16: the start tick of unit `k`: the ceiling of o + k × T/U. -/
def Stream.startOf (st : Stream) (k : Nat) : Nat := st.origin + ceilDiv (k * st.ticks) st.units

/-- R94: the fall of sample unit `k`: the ceiling of o + (2k + 1) × T/(2U). -/
def Stream.fallOf (st : Stream) (k : Nat) : Nat := st.origin + ceilDiv ((2 * k + 1) * st.ticks) (2 * st.units)

/-! ### The follow rule (R42) -/

/-- R42: the origin label of a derived timeline, raised to the first frame drop mode keeps. -/
def followLabel (house : Timeline) (r : RateCode) (drop : Bool) : Label :=
  let l : Label := { house.label with ff := house.label.ff * r.base / house.rate.base }
  if drop && dropSkips r l then { l with ff := r.dropped } else l

/-- R42: a lane timeline derived from the house timeline. The lane of the house rate code and drop mode gets the house
timeline itself. -/
def follow (house : Timeline) (r : RateCode) (drop : Bool) : Timeline :=
  ⟨r, drop, house.origin, followLabel house r drop⟩

/-! ### Boundaries (R45, R84, R87, R93) -/

/-- R84, R45: the first whole multiple of `p`, counted from tick 0, at or after `t`. -/
def gridAtOrAfter (p t : Nat) : Nat := p * ceilDiv t p

/-- R84, R93: the first tick at or after `c` on the boundary grid of origin `o` and period `p`: c + ((o − c) mod p). -/
def boundaryAtOrAfter (o p c : Nat) : Nat := c + (((o : Int) - c) % (p : Int)).toNat

/-! ### Rounding (R30, R31) -/

/-- R30: `n / d` rounded to the nearest whole number, an exact half away from zero. -/
def roundHalfAway (n : Int) (d : Nat) : Int :=
  let q : Int := ((2 * n.natAbs + d) / (2 * d) : Nat)
  if n < 0 then -q else q

/-- R31: rounded toward zero. -/
def truncDiv (n : Int) (d : Nat) : Int := Int.tdiv n d

end Sys2Proof.Machine
end

