-- ==== Sys2Proof/Machine/FrameWord.lean ====
section
/-! DEFINITION. The 72-bit frame word (11.1) and its CRC-8 (R181). -/

namespace Sys2Proof.Machine

/-- 11.1: the sync pattern, binary 1111110100. -/
def syncPattern : BitVec 10 := 0x3F4#10

/-- R181: the register after one field bit. -/
def crcStep (reg : Byte) (bit : Bool) : Byte :=
  let shifted := reg <<< 1
  if bit ^^ reg.getLsbD 7 then shifted ^^^ 0x07#8 else shifted

/-- R181: the CRC-8 over the 54 field bits in the order sent, from a register at 0. -/
def crc8 (bits : BitVec 54) : Byte :=
  ((List.range 54).map (fun k => bits.getLsbD (53 - k))).foldl crcStep 0#8

/-- 11.1: the sync field of a word. -/
def wordSync (w : FrameWord) : BitVec 10 := w.extractLsb' 62 10

/-- 11.1: fields 2 to 10, the 54 field bits. -/
def wordBits (w : FrameWord) : BitVec 54 := w.extractLsb' 8 54

/-- 11.1: the received CRC field. -/
def wordCheck (w : FrameWord) : Byte := w.extractLsb' 0 8

/-- 11.1: the fields in the 54 field bits, as received. -/
def fieldsOfBits (b : BitVec 54) : WordFields where
  label := ⟨(b.extractLsb' 49 5).toNat, (b.extractLsb' 43 6).toNat, (b.extractLsb' 37 6).toNat, (b.extractLsb' 31 6).toNat⟩
  drop := b.getLsbD 30
  run := b.getLsbD 29
  clap := b.getLsbD 28
  rateClass := (b.extractLsb' 24 4).toNat
  user := b.extractLsb' 0 24

/-- A flag as one bit. -/
def flagBit (b : Bool) : BitVec 1 := if b then 1#1 else 0#1

/-- 11.1: the 54 field bits of composed fields, in table order. -/
def bitsOfFields (f : WordFields) : BitVec 54 :=
  BitVec.ofNat 5 f.label.hh ++ BitVec.ofNat 6 f.label.mm ++ BitVec.ofNat 6 f.label.ss ++ BitVec.ofNat 6 f.label.ff
    ++ flagBit f.drop ++ flagBit f.run ++ flagBit f.clap ++ BitVec.ofNat 4 f.rateClass ++ f.user

/-- 11.1, R181: the whole word of composed fields. -/
def wordOfFields (f : WordFields) : FrameWord := syncPattern ++ bitsOfFields f ++ crc8 (bitsOfFields f)

/-- R60: the four checks of a received word, in order. -/
def judgeWord (set : InSettings) (w : FrameWord) : WordTag :=
  let f := fieldsOfBits (wordBits w)
  if crc8 (wordBits w) ≠ wordCheck w then .badCheck
  else if f.rateClass ≠ set.rate.cls then .wrongRate
  else if f.drop ≠ set.drop then .wrongRate
  else if labelValid set.rate set.drop f.label then .good
  else .badLabel

end Sys2Proof.Machine
end

