-- ==== Sys2Proof/Machine/Formats.lean ====
section
/-! DEFINITION. Frame and record formats (chapter 11): the codes, the field encodings, frames with their check, notice
bodies and the take record of 11.8. Where R183 and R184 leave an order or a width to be read from other rules, the reading is
the one of log entries 16 to 19. -/

namespace Sys2Proof.Machine

/-! ### Fields (11.4) -/

/-- One character holding a number. -/
def char (n : Nat) : Byte := BitVec.ofNat 8 n

/-- A flag character: bit 0. -/
def flagChar (b : Bool) : Byte := if b then 1#8 else 0#8

/-- R184: flags named together as one item: bit 0 for the first named, upward. -/
def flagsChar : List Bool → Byte
  | [] => 0#8
  | b :: bs => flagChar b ||| (flagsChar bs <<< 1)

/-- 11.4: a tick, 6 characters. -/
def tickChars (t : Nat) : List Byte := bytesOf 6 t

/-- 11.4, R184: a signed number in `n` characters, two's complement. -/
def signedChars (n : Nat) (v : Int) : List Byte := bytesOf n (v % (256 ^ n : Nat)).toNat

/-- 11.4: an offset, 5 characters. -/
def offsetChars (v : Int) : List Byte := signedChars 5 v

/-- 11.4: a label, 5 characters, the drop flag in bit 0 of the flags character. -/
def labelChars (l : Label) (drop : Bool) : List Byte := [char l.hh, char l.mm, char l.ss, char l.ff, flagChar drop]

/-- R184: an item that may be absent: a presence character, then `n` characters, 0 when absent. -/
def presentOr {α : Type} (n : Nat) (enc : α → List Byte) : Option α → List Byte
  | none => 0#8 :: List.replicate n 0#8
  | some a => 1#8 :: enc a

/-- 11.4: an origin or source. -/
def originChar : Origin → Byte
  | .link l => char l.val
  | .lane i => char (0x10 + i.val)
  | .contact => 0x20#8

/-- 11.7, R50: a timeline: rate class, origin tick, origin label with its drop flag. -/
def timelineChars (tl : Timeline) : List Byte := [char tl.rate.cls] ++ tickChars tl.origin ++ labelChars tl.label tl.drop

/-- 11.4: text characters, then 0x00 to the width. -/
def textChars (width : Nat) (cs : List Byte) : List Byte := (cs ++ List.replicate width 0#8).take width

/-! ### Codes (R182, R183) -/

/-- R182: refusal codes. -/
def RefusalCode.code : RefusalCode → Byte
  | .badCheck => 0x01#8
  | .lineError => 0x02#8
  | .incomplete => 0x03#8
  | .unknownKind => 0x04#8
  | .badLength => 0x05#8
  | .badValue => 0x06#8
  | .busy => 0x07#8
  | .rolling => 0x08#8
  | .notTracking => 0x09#8
  | .rateMismatch => 0x0A#8
  | .tableFull => 0x0B#8
  | .openFull => 0x0C#8
  | .duplicate => 0x0D#8
  | .noTake => 0x0E#8
  | .wrongState => 0x0F#8
  | .rollLimit => 0x10#8
  | .laneBusy => 0x11#8
  | .badParticipant => 0x12#8
  | .range => 0x13#8
  | .collected => 0x14#8
  | .empty => 0x15#8
  | .storeFault => 0x16#8

/-- 2.4: reference states. -/
def RefState.code : RefState → Byte
  | .off => 0#8
  | .acquire => 1#8
  | .locked => 2#8
  | .holdover => 3#8

/-- R38: loop modes. -/
def LoopMode.code : LoopMode → Byte
  | .track => 0#8
  | .fixed => 1#8

/-- R183: reference sources. -/
def RefSource.code : RefSource → Byte
  | .off => 0x00#8
  | .refInput => 0x01#8
  | .lane i => char (0x10 + i.val)

/-- R48: house-change causes. -/
def HouseCause.code : HouseCause → Byte
  | .set => 0#8
  | .deferred => 1#8
  | .jam => 2#8
  | .autojam => 3#8
  | .unjam => 4#8

/-- R57: input lane kinds. -/
def InKind.code : InKind → Byte
  | .off => 0#8
  | .timecode => 1#8
  | .pulse => 2#8

/-- R57: roles. -/
def Role.code : Role → Byte
  | .camera => 0#8
  | .sound => 1#8
  | .slate => 2#8
  | .other => 3#8

/-- 4.4: tracking states. -/
def Tracking.code : Tracking → Byte
  | .silent => 0#8
  | .seeking => 1#8
  | .tracking => 2#8

/-- R77: arrival tags. -/
def WordTag.code : WordTag → Byte
  | .good => 0#8
  | .badCheck => 1#8
  | .wrongRate => 2#8
  | .badLabel => 3#8

/-- R76: capture modes. -/
def CaptureMode.code : CaptureMode → Byte
  | .off => 0#8
  | .one => 1#8
  | .continuous => 2#8

/-- R75: causes of LANE_STATE. -/
def LaneCause.code : LaneCause → Byte
  | .goodWord => 0#8
  | .runComplete => 1#8
  | .discontinuity => 2#8
  | .errors => 3#8
  | .silence => 4#8
  | .setInput => 5#8

/-- R82: output lane states. -/
def OutState.code : OutState → Byte
  | .off => 0#8
  | .waiting => 1#8
  | .running => 2#8

/-- R4: sample rates. -/
def SampleRate.code : SampleRate → Byte
  | .s44 => 0#8
  | .s48 => 1#8
  | .s88 => 2#8
  | .s96 => 3#8

/-- R4: pull. -/
def Pull.code : Pull → Byte
  | .straight => 0#8
  | .up => 1#8
  | .down => 2#8

/-- R98, 11.7: take states. -/
def TakeState.code : TakeState → Byte
  | .armed => 0#8
  | .rolling => 1#8
  | .cut => 2#8
  | .closed => 3#8

/-- R125: causes of TAKE_STATE. -/
def TakeCause.code : TakeCause → Byte
  | .arm => 0#8
  | .roll => 1#8
  | .autoRoll => 2#8
  | .cut => 3#8
  | .autoCut => 4#8
  | .close => 5#8
  | .void => 6#8
  | .evict => 7#8

/-- R111: ratings. -/
def Rating.code : Rating → Byte
  | .unrated => 0#8
  | .circled => 1#8
  | .noGood => 2#8

/-- 11.8: mark kinds. -/
def MarkKind.code : MarkKind → Byte
  | .mark => 0#8
  | .slip => 1#8
  | .dropout => 2#8
  | .secondClap => 3#8

/-- R134: duty codes. -/
def DutyCode.code : DutyCode → Byte
  | .d11 => 0#8
  | .d12 => 1#8
  | .d13 => 2#8
  | .d21 => 3#8
  | .d31 => 4#8
  | .steady => 5#8

/-- R175: store states, in the rule's table order. -/
def StoreState.code : StoreState → Byte
  | .blank => 0#8
  | .incomplete => 1#8
  | .good => 2#8

/-- R128: contact states. -/
def ContactState.code : ContactState → Byte
  | .opened => 0#8
  | .timing _ => 1#8
  | .held => 2#8

/-- 11.5: a display source: kind and lane. A response sends it as the request does, with lane 0 for HOUSE (DEDUCED, log entry 33). -/
def Display.chars : Display → List Byte
  | .house => [0#8, 0#8]
  | .output o => [1#8, char o.val]
  | .input i => [2#8, char i.val]

/-- R183: a pointer: its code and take id. A response sends it as the request does, with id 0 for AUTO and no presence character
(DEDUCED, log entry 33). -/
def Pointer.chars : Pointer → List Byte
  | .auto => 0#8 :: bytesOf 2 0
  | .take id => 1#8 :: bytesOf 2 id

/-! ### Frames (R153) -/

/-- R153: the check character: the sum of lead, length, body and check is 0 modulo 256. -/
def checkChar (lead : Byte) (body : List Byte) : Byte := 0#8 - body.foldl (· + ·) (lead + char body.length)

/-- R153: a frame of the part: the lead with its marker, then length, body and check. -/
def frameChars (lead : Byte) (body : List Byte) : List TxChar :=
  ⟨lead, true⟩ :: (char body.length :: body ++ [checkChar lead body]).map (fun c => ⟨c, false⟩)

/-! ### Notice bodies (11.7) -/

/-- 11.7: the code of a notice's kind. -/
def NoticeBody.kindCode : NoticeBody → Byte
  | .takeState .. => 0x01#8
  | .autoRollRefused .. => 0x02#8
  | .marksFull .. => 0x03#8
  | .clap .. => 0x04#8
  | .looseClap .. => 0x05#8
  | .laneState .. => 0x06#8
  | .slip .. => 0x07#8
  | .dropout .. => 0x08#8
  | .houseChanged .. => 0x09#8
  | .referenceState .. => 0x0A#8
  | .saveDone .. => 0x0B#8

/-- R165: the class of a notice. -/
def NoticeBody.noticeClass : NoticeBody → NoticeClass
  | .takeState .. | .autoRollRefused .. | .marksFull .. => .take
  | .clap .. | .looseClap .. => .clap
  | .laneState .. | .slip .. | .dropout .. => .lane
  | .houseChanged .. | .referenceState .. => .house
  | .saveDone .. => .store

/-- R183: a class's bit in a class set. -/
def NoticeClass.bit : NoticeClass → Nat
  | .take => 0
  | .clap => 1
  | .lane => 2
  | .house => 3
  | .store => 4

/-- 11.7: the subject: take id, or the lane, or 0. -/
def NoticeBody.subject : NoticeBody → Nat
  | .takeState id .. | .autoRollRefused id .. | .marksFull id .. | .clap id .. => id
  | .laneState i .. | .slip i .. | .dropout i .. => i.val
  | .looseClap .. | .houseChanged .. | .referenceState .. | .saveDone .. => 0

/-- 11.7: the detail of each kind. -/
def NoticeBody.detail : NoticeBody → List Byte
  | .takeState _ prev now cause actor start fin =>
    [(prev.map TakeState.code).getD 0xFF#8, (now.map TakeState.code).getD 4#8, cause.code, originChar actor,
      flagsChar [start.isSome, fin.isSome]] ++ tickChars (start.getD 0) ++ tickChars (fin.getD 0)
  | .autoRollRefused _ lane code => [char lane.val, code.code]
  | .marksFull _ tick kind => tickChars tick ++ [kind.code]
  | .clap _ stamp source second => tickChars stamp ++ [originChar source, flagChar second]
  | .looseClap stamp source n lost => tickChars stamp ++ [originChar source, char n, char lost]
  | .laneState _ prev now cause lock => [prev.code, now.code, cause.code] ++ presentOr 5 offsetChars lock
  | .slip _ stamp new old n => tickChars stamp ++ offsetChars new ++ offsetChars old ++ bytesOf 2 n
  | .dropout _ stamp role => tickChars stamp ++ [role.code]
  | .houseChanged cause tl depth lane =>
    [cause.code] ++ timelineChars tl ++ [char depth, (lane.map (fun i => char i.val)).getD 0xFF#8]
  | .referenceState prev now stale trim => [prev.code, now.code, flagChar stale] ++ signedChars 2 trim
  | .saveDone taken link store cleared => tickChars taken ++ [char link.val, store.code, flagChar cleared]

/-- 11.7: the header and detail of a notice as queued on a link. -/
def QueuedNotice.body (q : QueuedNotice) : List Byte :=
  [q.notice.body.kindCode, flagChar q.gap] ++ tickChars q.notice.tick ++ bytesOf 2 q.notice.body.subject ++ q.notice.body.detail

/-- R153, R170: the frame of a notice. -/
def QueuedNotice.frame (q : QueuedNotice) : List TxChar := frameChars 0xFE#8 q.body

/-! ### Records in responses (11.8, R184) -/

/-- 11.8: a participant's six characters. -/
def Participant.chars (p : Participant) : List Byte :=
  [char p.lane.val, flagsChar [p.rollTag.isSome, p.runSeen, p.stopped]] ++ bytesOf 3 (p.rollTag.getD 0#24).toNat ++ [char p.slips]

/-- 11.8: a mark's nine characters. -/
def Mark.chars (m : Mark) : List Byte := tickChars m.tick ++ [m.kind.code, originChar m.origin, char m.code]

/-- 11.8: the whole take record. -/
def Take.record (t : Take) : List Byte :=
  bytesOf 2 t.id ++ [t.state.code] ++ textChars 8 t.scene ++ textChars 4 t.shot ++ bytesOf 2 t.number
    ++ [char t.arming.val, flagsChar [t.autoRoll, t.autoCut, t.marksFull], t.rating.code, t.collected.setWidth 8,
      flagsChar [t.start.isSome, t.clap.isSome, t.endTick.isSome]]
    ++ tickChars (t.start.getD 0) ++ tickChars (t.clap.getD 0) ++ tickChars (t.endTick.getD 0)
    ++ [char t.participants.length, char t.marks.length]
    ++ t.participants.flatMap Participant.chars ++ t.marks.flatMap Mark.chars

/-- 11.4: a captured word, 15 characters. -/
def Captured.chars (c : Captured) : List Byte :=
  tickChars c.arrival ++ [c.tag.code] ++ bytesOf 8 (c.bits.toNat * 256 + c.check.toNat)

/-- R57, R80: an input lane's settings. -/
def InSettings.chars (s : InSettings) : List Byte :=
  [s.kind.code, char s.rate.cls, flagChar s.drop, s.role.code] ++ bytesOf 2 s.lead ++ [char s.window, char s.silence]
    ++ bytesOf 2 s.tolerance

/-- 11.5: the settings characters of a configuration after its kind; a FOLLOW lane's are those of its derived timeline. Under the user
source TAKE the value is sent as 0, with no presence character of its own (DEDUCED, log entry 35). -/
def OutSetup.settingChars (su : OutSetup) : List Byte :=
  match su.config with
  | .off => []
  | .wordclock s p => [s.code, p.code]
  | .pulse r d pl du =>
    (match r with
      | .code c => [0#8, char c.cls]
      | .custom b => [1#8, char b]) ++ [flagChar d] ++ bytesOf 3 pl ++ bytesOf 3 du
  | .timecode r d tl u =>
    let line := su.timeline.getD ⟨r, d, 0, ⟨0, 0, 0, 0⟩⟩
    [char r.cls, (match tl with
      | .follow => 0#8
      | .own _ _ => 1#8)] ++ tickChars line.origin ++ labelChars line.label line.drop
      ++ (match u with
        | .constant v => 0#8 :: bytesOf 3 v.toNat
        | .take => 1#8 :: bytesOf 3 0)

/-- R83: the code of a configuration's kind. -/
def OutConfig.kindCode : OutConfig → Byte
  | .off => 0#8
  | .pulse .. => 1#8
  | .timecode .. => 2#8
  | .wordclock .. => 3#8

/-- R184: a configuration as one item of 18 characters, the width of its longest kind. -/
def OutSetup.chars (su : OutSetup) : List Byte := su.config.kindCode :: textChars 17 su.settingChars

end Sys2Proof.Machine
end

