-- ==== Sys2Proof/Machine/Ops.lean ====
section
/-! DEFINITION. The named operations every block uses: reading and updating a lane, a link or a take, handing a notice to
the links (R166 to R169), taking a request and answering it (R153, R158, R159), and the look-ups that blocks make of one
another (R124, R137). -/

namespace Sys2Proof.Machine

/-! ### Reading and updating -/

/-- Input lane `i`. -/
def State.input (s : State) (i : LaneId) : InLane := s.inputs.get i

/-- Output lane `o`. -/
def State.output (s : State) (o : LaneId) : OutLane := s.outputs.get o

/-- Link `l`. -/
def State.link (s : State) (l : LinkId) : LinkPort := s.links.get l

/-- Input lane `i` through `f`. -/
def State.modInput (s : State) (i : LaneId) (f : InLane → InLane) : State := { s with inputs := s.inputs.set i (f (s.input i)) }

/-- Output lane `o` through `f`. -/
def State.modOutput (s : State) (o : LaneId) (f : OutLane → OutLane) : State :=
  { s with outputs := s.outputs.set o (f (s.output o)) }

/-- Link `l` through `f`. -/
def State.modLink (s : State) (l : LinkId) (f : LinkPort → LinkPort) : State := { s with links := s.links.set l (f (s.link l)) }

/-- The House Clock through `f`. -/
def State.modHc (s : State) (f : HouseClock → HouseClock) : State := { s with hc := f s.hc }

/-- The Timeline Unit through `f`. -/
def State.modTu (s : State) (f : TimelineUnit → TimelineUnit) : State := { s with tu := f s.tu }

/-- The Take Table through `f`. -/
def State.modTt (s : State) (f : TakeTable → TakeTable) : State := { s with tt := f s.tt }

/-- The Slate Unit through `f`. -/
def State.modSu (s : State) (f : SlateUnit → SlateUnit) : State := { s with su := f s.su }

/-- The Settings Store through `f`. -/
def State.modStore (s : State) (f : SettingsStore → SettingsStore) : State := { s with store := f s.store }

/-- The house tick. -/
abbrev State.tick (s : State) : Nat := s.hc.tick

/-- The newest accepted configuration of an output lane: pending, or else in force (R19). -/
def OutLane.newest (o : OutLane) : Option OutSetup :=
  match o.waiting with
  | some su => some su
  | none => o.inForce

/-- The newest accepted configuration's timeline, for a TIMECODE lane. -/
def OutLane.newestTimeline (o : OutLane) : Option Timeline := o.newest.bind OutSetup.timeline

/-- Whether a configuration is of kind TIMECODE. -/
def OutConfig.isTimecode : OutConfig → Bool
  | .timecode .. => true
  | .off | .pulse .. | .wordclock .. => false

/-- Whether the newest accepted configuration is of kind TIMECODE (R91). -/
def OutLane.isTimecode (o : OutLane) : Bool :=
  match o.newest with
  | some su => su.config.isTimecode
  | none => false

/-- The newest accepted divisor of a link, pending or in force (R149). -/
def LinkPort.newestDivisor (p : LinkPort) : Nat :=
  match p.pendingDivisor with
  | some d => d.value
  | none => p.divisor

/-! ### Takes -/

/-- The record that holds an id. -/
def State.take? (s : State) (id : Nat) : Option Take := s.tt.takes.find? (fun t => t.id == id)

/-- The record that holds an id, through `f`. -/
def State.modTake (s : State) (id : Nat) (f : Take → Take) : State :=
  s.modTt fun t => { t with takes := t.takes.map (fun k => if k.id = id then f k else k) }

/-- Whether a take lists a lane. -/
def Take.lists (t : Take) (i : LaneId) : Bool := t.participants.any (fun p => p.lane == i)

/-- The ROLLING take that lists a lane; R105 keeps it the only one. -/
def State.rollingTakeOf (s : State) (i : LaneId) : Option Take := s.tt.takes.find? (fun t => t.state == .rolling && t.lists i)

/-- R137: the slate take under AUTO: the ROLLING take nearest the tail of the roll-order list, or else the take at the tail. -/
def State.autoSlateTake (s : State) : Option Take :=
  let rolled := s.tt.rollOrder.reverse.filterMap s.take?
  match rolled.find? (fun t => t.state == .rolling) with
  | some t => some t
  | none => rolled.head?

/-- R137: the slate take as the pointer resolves now. -/
def State.slateTake (s : State) : Option Take :=
  match s.su.pointer with
  | .auto => s.autoSlateTake
  | .take id => s.take? id

/-! ### Notices -/

/-- R166: a link's subscription holds a class. -/
def LinkPort.subscribes (p : LinkPort) (c : NoticeClass) : Bool := p.notices.classes.getLsbD c.bit

/-- R167 to R169: a notice enters a queue with room: its GAP bit, the flag's clearing, the release and the expiry. -/
def LinkPort.enqueue (p : LinkPort) (n : Notice) (now : Nat) : LinkPort :=
  let queue := p.queue ++ [⟨n, p.gap, now⟩]
  let release := p.release || decide (p.notices.level ≤ queue.length)
  { p with
    queue := queue
    gap := false
    release := release
    batchExpiry := if release then none else if p.queue.isEmpty then some (now + p.notices.timeout * Config.ticksPerMs) else p.batchExpiry }

/-- R166, R167: a notice offered to one link. -/
def LinkPort.offer (p : LinkPort) (n : Notice) (now : Nat) : LinkPort :=
  if p.subscribes n.body.noticeClass then
    if p.queue.length < Config.fifoDepth then p.enqueue n now else { p with gap := true }
  else p

/-- R166: a block hands a notice to the Link Ports at the tick of its event. -/
def State.post (s : State) (b : NoticeBody) : State :=
  { s with links := s.links.map (fun p => p.offer ⟨b, s.tick⟩ s.tick) }

/-- R79: a lane enters every link's changed-lane set. -/
def State.markChanged (s : State) (i : LaneId) : State :=
  { s with links := s.links.map (fun p => { p with changed := p.changed ||| (1#8 <<< i.val) }) }

/-! ### Requests and responses -/

/-- What happens when the last character of an accepted response has been sent (R149, R179). -/
inductive AfterSend where
  | nothing
  | divisor (d : Nat)
  | restart
  deriving DecidableEq, Repr

/-- R158: what an owning block gives for a request. -/
inductive Reply where
  | accepted (body : List Byte) (after : AfterSend)
  | refused (code : RefusalCode) (carried : Option TakeState)
  deriving DecidableEq, Repr

/-- An acceptance with nothing to do after it is sent. -/
def Reply.ok (body : List Byte) : Reply := .accepted body .nothing

/-- A refusal that carries no state. -/
def Reply.no (code : RefusalCode) : Reply := .refused code none

/-- R153, R159: the response frame. -/
def Reply.frame (kind : Byte) : Reply → List TxChar
  | .accepted body _ => frameChars (kind + 0x80#8) body
  | .refused code _ => frameChars 0xFF#8 [kind, code.code]

/-- The take state a refusal carries beside its frame. -/
def Reply.carried : Reply → Option TakeState
  | .accepted _ _ => none
  | .refused _ c => c

/-- The characters a link has to send before a response that is now formed: those in the transmit FIFO and the rest of a
notice being fed (R160). -/
def LinkPort.charsAhead (p : LinkPort) : Nat :=
  p.tx.length + (match p.feeder with
    | .notice _ rest => rest.length
    | .free | .response => 0)

/-- R158, R149, R179: the response becomes the waiting response, and what its sending will bring about is noted. -/
def LinkPort.answer (p : LinkPort) (kind : Byte) (r : Reply) : LinkPort :=
  let frame := r.frame kind
  let p := { p with response := some ⟨frame, 0, r.carried⟩ }
  match r with
  | .accepted _ (.divisor d) => { p with pendingDivisor := some ⟨d, p.charsAhead + frame.length⟩ }
  | .accepted _ .restart => { p with restartAfter := some (p.charsAhead + frame.length) }
  | .accepted _ .nothing | .refused _ _ => p

/-- R155 checks 2 and 3: the outcome of a frame whose check character is right. -/
def judgedFrame (kind : Byte) (body : List Byte) : HeldOutcome :=
  if !kindNamesRequest kind then .refusal kind .unknownKind
  else if (allowedLengths kind).contains body.length then .request kind body
  else .refusal kind .badLength

/-- R158, R179: a link takes a held outcome only while no response waits and no RESTART response is on its way. -/
def LinkPort.free (p : LinkPort) : Bool := p.response.isNone && p.restartAfter.isNone

/-- R158: the request with this frame can be taken on the link now. A request whose characters were received is the outcome
held in DONE; one given to the model as a command finds no other outcome held (log entry 3). -/
def LinkPort.canTake (p : LinkPort) (kind : Byte) (body : List Byte) : Bool :=
  p.free && (match p.assembler with
    | .done held => held == judgedFrame kind body
    | .idle | .length _ | .body .. | .check .. => true)

/-- R158: taking a held outcome returns the assembler from DONE to IDLE. -/
def LinkPort.leaveDone (p : LinkPort) : LinkPort :=
  match p.assembler with
  | .done _ => { p with assembler := .idle }
  | .idle | .length _ | .body .. | .check .. => p

/-- R158: a request that cannot be taken yet is held in DONE, where the assembler is free to hold it. -/
def LinkPort.holdOutcome (p : LinkPort) (held : HeldOutcome) : LinkPort :=
  match p.assembler with
  | .idle => { p with assembler := .done held }
  | .done _ | .length _ | .body .. | .check .. => p

/-- R158: a request is taken on link `l` at this tick: the owning block `act`s, and its reply becomes the waiting response. -/
def takeRequest (l : LinkId) (i : Instr) (act : State → State × Reply) (s : State) : State :=
  let kind := (requestFrame i).1
  let body := (requestFrame i).2
  if (s.link l).canTake kind body then
    let s := s.modLink l LinkPort.leaveDone
    let done := match judgedFrame kind body with
      | .request _ _ => act s
      | .refusal _ code => (s, Reply.no code)
    done.1.modLink l (fun p => p.answer kind done.2)
  else if !(s.link l).free then s.modLink l (fun p => p.holdOutcome (judgedFrame kind body))
  else s

end Sys2Proof.Machine
end

