-- ==== Sys2Proof/Machine/Operands.lean ====
section
/-! DEFINITION. The operand forms of the requests: what a code, a number, a label, a text or a configuration field stands
for, and the clamps (R183, 11.4, 11.5 and the settings tables of the owning rules). A field that stands for nothing is
`none`, which the owning block refuses BAD_VALUE. -/

namespace Sys2Proof.Machine

/-- 00_scope, Clamp: a value out of range is moved to the nearer end. -/
def clamp (low high v : Nat) : Nat := max low (min high v)

/-- A lane number 0 to 7. -/
def laneOf (b : Byte) : Option LaneId := if h : b.toNat < 8 then some ⟨b.toNat, h⟩ else none

/-- A link number 0 to 3. -/
def linkOf (b : Byte) : Option LinkId := if h : b.toNat < 4 then some ⟨b.toNat, h⟩ else none

/-- R2: a rate class. -/
def rateOf (b : Byte) : Option RateCode := RateCode.ofClass b.toNat

/-- R183: a two-valued code, off 0 and on 1. -/
def switchOf (b : Byte) : Option Bool :=
  match b.toNat with
  | 0 => some false
  | 1 => some true
  | _ => none

/-- R2: a drop mode is allowed with a rate code. -/
def dropFits (r : RateCode) (drop : Bool) : Bool := !drop || r.dropAllowed

/-- R183: the four numbers of a label field and its drop flag; none where a flags bit 1 to 7 is set. -/
def labelOf (f : LabelField) : Option (Label × Bool) :=
  if f.flags.toNat ≤ 1 then some (⟨f.hh.toNat, f.mm.toNat, f.ss.toNat, f.ff.toNat⟩, f.flags.getLsbD 0) else none

/-- R11, R20, R44: a rate class, a label field and an origin tick as a timeline; none where a code is unknown, the drop mode
is not allowed or the label is invalid. -/
def timelineOf (cls : Byte) (f : LabelField) (origin : Nat) : Option Timeline :=
  match rateOf cls, labelOf f with
  | some r, some (l, d) => if dropFits r d && labelValid r d l then some ⟨r, d, origin, l⟩ else none
  | _, _ => none

/-- R183: a reference source code. -/
def refSourceOf (b : Byte) : Option RefSource :=
  match b.toNat with
  | 0 => some .off
  | 1 => some .refInput
  | _ => if 0x10 ≤ b.toNat then (laneOf (b - 0x10#8)).map RefSource.lane else none

/-- R183: a loop mode code. -/
def loopOf (b : Byte) : Option LoopMode :=
  match b.toNat with
  | 0 => some .track
  | 1 => some .fixed
  | _ => none

/-- R183: SET AUTOJAM's setting; the outer `none` is an unknown code. -/
def autoJamOf (b : Byte) : Option (Option LaneId) := if b = 0xFF#8 then some none else (laneOf b).map some

/-- R57: an input lane kind code. -/
def inKindOf (b : Byte) : Option InKind :=
  match b.toNat with
  | 0 => some .off
  | 1 => some .timecode
  | 2 => some .pulse
  | _ => none

/-- R57: a role code. -/
def roleOf (b : Byte) : Option Role :=
  match b.toNat with
  | 0 => some .camera
  | 1 => some .sound
  | 2 => some .slate
  | 3 => some .other
  | _ => none

/-- R57: an input lane's settings: codes checked, window, silence limit and slip tolerance clamped. -/
def inSettingsOf (kind cls drop role : Byte) (lead : BitVec 16) (window silence : Byte) (tolerance : BitVec 16) :
    Option InSettings :=
  match inKindOf kind, rateOf cls, switchOf drop, roleOf role with
  | some k, some r, some d, some ro =>
    if dropFits r d then
      some ⟨k, r, d, ro, lead.toNat, max 1 window.toNat, max 1 silence.toNat, max 1 tolerance.toNat⟩
    else none
  | _, _, _, _ => none

/-- R76: a capture mode code. -/
def captureModeOf (b : Byte) : Option CaptureMode :=
  match b.toNat with
  | 0 => some .off
  | 1 => some .one
  | 2 => some .continuous
  | _ => none

/-- R4: a sample-rate code. -/
def sampleRateOf (b : Byte) : Option SampleRate :=
  match b.toNat with
  | 0 => some .s44
  | 1 => some .s48
  | 2 => some .s88
  | 3 => some .s96
  | _ => none

/-- R4: a pull code. -/
def pullOf (b : Byte) : Option Pull :=
  match b.toNat with
  | 0 => some .straight
  | 1 => some .up
  | 2 => some .down
  | _ => none

/-- R83, 11.5: a PULSE lane's rate. -/
def pulseRateOf (form rate : Byte) : Option PulseRate :=
  match form.toNat with
  | 0 => (rateOf rate).map PulseRate.code
  | 1 => if customAllowed rate.toNat then some (.custom rate.toNat) else none
  | _ => none

/-- R83: a drop mode is allowed with a PULSE lane's rate. -/
def pulseDropFits : PulseRate → Bool → Bool
  | .code r, d => dropFits r d
  | .custom _, d => !d

/-- R83: a PULSE configuration, placement and duration clamped. -/
def pulseConfigOf (form rate drop : Byte) (placement duration : BitVec 24) : Option OutConfig :=
  match pulseRateOf form rate, switchOf drop with
  | some r, some d =>
    if pulseDropFits r d then
      some (.pulse r d (min placement.toNat (r.period - 1)) (clamp 1 (r.period - 1) duration.toNat))
    else none
  | _, _ => none

/-- R83: a TIMECODE lane's user source. -/
def userSourceOf (code : Byte) (value : BitVec 24) : Option UserSource :=
  match code.toNat with
  | 0 => some (.constant value)
  | 1 => some .take
  | _ => none

/-- R83: a TIMECODE configuration; the label's numbers are ignored under FOLLOW. -/
def timecodeConfigOf (cls timeline : Byte) (origin : BitVec 48) (label : LabelField) (user : Byte) (value : BitVec 24) :
    Option OutConfig :=
  match rateOf cls, labelOf label, userSourceOf user value with
  | some r, some (l, d), some u =>
    if dropFits r d then
      match timeline.toNat with
      | 0 => some (.timecode r d .follow u)
      | 1 => if labelValid r d l then some (.timecode r d (.own origin.toNat l) u) else none
      | _ => none
    else none
  | _, _, _ => none

/-- R83, R183: a SET OUTPUT configuration; none where a code or range fails or the body's length does not match its kind. -/
def outConfigOf (kind : Byte) (f : OutputFields) : Option OutConfig :=
  match kind.toNat, f with
  | 0, .bare => some .off
  | 1, .pulse form rate drop pl du => pulseConfigOf form rate drop pl du
  | 2, .timecode cls tl o lab u v => timecodeConfigOf cls tl o lab u v
  | 3, .wordclock s p =>
    match sampleRateOf s, pullOf p with
    | some s, some p => some (.wordclock s p)
    | _, _ => none
  | _, _ => none

/-- R102: a text character: A to Z, 0 to 9, '-' or '.'. -/
def textChar (b : Byte) : Bool :=
  (decide (0x41 ≤ b.toNat) && decide (b.toNat ≤ 0x5A)) || (decide (0x30 ≤ b.toNat) && decide (b.toNat ≤ 0x39))
    || b == 0x2D#8 || b == 0x2E#8

/-- R183: the text of a scene or shot field: its characters before the first 0x00, with nothing but 0x00 after. -/
def textOf (cs : List Byte) : Option (List Byte) :=
  let text := cs.takeWhile (· ≠ 0#8)
  if text.all textChar && (cs.dropWhile (· ≠ 0#8)).all (· == 0#8) then some text else none

/-- R102: the participant lanes of the first `count` slots. -/
def participantsOf (count : Byte) (slots : List Byte) : Option (List LaneId) :=
  if 1 ≤ count.toNat ∧ count.toNat ≤ 8 then (slots.take count.toNat).mapM laneOf else none

/-- R111: a rating code. -/
def ratingOf (b : Byte) : Option Rating :=
  match b.toNat with
  | 0 => some .unrated
  | 1 => some .circled
  | 2 => some .noGood
  | _ => none

/-- R143: a display source: kind and lane. The kind HOUSE names no lane, and its lane character is not judged (DESIGN CHOICE, log
entry 30). -/
def displayOf (kind lane : Byte) : Option Display :=
  match kind.toNat with
  | 0 => some .house
  | 1 => (laneOf lane).map Display.output
  | 2 => (laneOf lane).map Display.input
  | _ => none

/-- R143: a blink cycle, carried as its number. -/
def cycleOf (b : Byte) : Option Nat := if [8, 16, 32, 64].contains b.toNat then some b.toNat else none

/-- R143: a blink duty, carried as its number. -/
def dutyPercentOf (b : Byte) : Option Nat := if [25, 50, 75].contains b.toNat then some b.toNat else none

/-- R134: a duty code. -/
def dutyCodeOf (b : Byte) : Option DutyCode :=
  match b.toNat with
  | 0 => some .d11
  | 1 => some .d12
  | 2 => some .d13
  | 3 => some .d21
  | 4 => some .d31
  | 5 => some .steady
  | _ => none

end Sys2Proof.Machine
end

