-- ==== Sys2Proof/Machine/Flags.lean ====
section
/-! DEFINITION. The flags and bounded counters of the blocks: the trim's clamp with LIMIT, saturation, the receive FIFO's hold
output, the flag characters of STATUS and READ CLOCK, and the GAP and changed-lane clearing of STATUS. -/

namespace Sys2Proof.Machine

/-- R26: the trim clamped to its range. -/
def clampTrim (v : Int) : Int := max (-Config.trimLimit) (min Config.trimLimit v)

/-- R31: the trim after a TRACK measurement with correction `c`. -/
def trackedTrim (trim c : Int) : Int := clampTrim (trim - truncDiv c 4)

/-- R31: LIMIT after a measurement: set where a TRACK step needed the clamp, cleared otherwise. -/
def limitAfter (loop : LoopMode) (trim c : Int) : Bool :=
  match loop with
  | .track => decide (trim - truncDiv c 4 ≠ trackedTrim trim c)
  | .fixed => false

/-- R72: a counter that saturates at 65,535. -/
def bump (n : Nat) : Nat := min 65535 (n + 1)

/-- R99, R132: a count that saturates at 255. -/
def bumpByte (n : Nat) : Nat := min 255 (n + 1)

/-- R151: the hold output after the receive FIFO count has become `count`. -/
def holdAfter (held : Bool) (count : Nat) : Bool :=
  if 24 ≤ count then true else if count ≤ 8 then false else held

/-- R162: the LIMIT and STALE flags of STATUS and READ REFERENCE as one item. -/
def HouseClock.flags (h : HouseClock) : Byte := flagsChar [h.limit, h.stale]

/-- R162: the STORE_FAULT flag and whether a write is in flight, as one item. -/
def SettingsStore.flags (t : SettingsStore) : Byte := flagsChar [t.fault, t.write.isSome]

/-- R163: READ CLOCK's status character. -/
def State.clockFlags (s : State) : Byte := flagsChar [s.hc.full, s.tu.change.isSome]

/-- R162: STATUS empties this link's changed-lane set and clears its GAP flag. -/
def LinkPort.afterStatus (p : LinkPort) : LinkPort := { p with changed := 0#8, gap := false }

/-- R79: READ INPUT removes a lane from this link's changed-lane set. -/
def LinkPort.seen (p : LinkPort) (i : LaneId) : LinkPort := { p with changed := p.changed &&& ~~~(1#8 <<< i.val) }

end Sys2Proof.Machine
end

