-- ==== Sys2Proof/Machine/HouseClock.lean ====
section
/-! DEFINITION. House Clock (chapter 02): reference edges, measurement, the reference states, SET REFERENCE and READ
REFERENCE, the loss and STALE expiries. -/

namespace Sys2Proof.Machine

/-- R27: the reference period of a source. -/
def State.periodOf (s : State) (src : RefSource) (refRate : RateCode) : Nat :=
  match src with
  | .off => 0
  | .refInput => refRate.period
  | .lane i => (s.input i).settings.rate.period

/-- R27: the reference period P_ref as it stands. -/
def State.refPeriod (s : State) : Nat := s.periodOf s.hc.source s.hc.refRate

/-- R28: the fine stamp of an edge now: house tick × 32 plus the fine position within the tick. -/
def HouseClock.fineStamp (h : HouseClock) : Nat := h.tick * Config.finePerTick + h.fine / Config.fineUnit

/-- R37: one REFERENCE_STATE notice where the state or STALE has changed from `old`. -/
def State.reportReference (s : State) (old : HouseClock) : State :=
  if s.hc.state = old.state ∧ s.hc.stale = old.stale then s
  else s.post (.referenceState old.state s.hc.state s.hc.stale s.hc.trim)

/-- R32, R34: the edge history discarded and the in-tolerance count cleared. -/
def HouseClock.forget (h : HouseClock) : HouseClock :=
  { h with windowStart := none, edgeCount := 0, lastEdge := none, nextExpected := none, inTolerance := 0 }

/-- R29, R35: an edge accepted as the window start. -/
def HouseClock.startWindow (h : HouseClock) (stamp period : Nat) : HouseClock :=
  { h with windowStart := some stamp, edgeCount := 0, lastEdge := some stamp, nextExpected := some (h.tick + period) }

/-- R30 step 2: the correction of a window of 16 periods from stamp `s0` to stamp `s16`. -/
def correctionOf (s0 s16 period : Nat) : Int :=
  roundHalfAway (((s16 : Int) - s0 - 512 * period) * 100000000) (512 * period)

/-- R33: the judgement of a measurement on the reference state and the in-tolerance count. -/
def HouseClock.judge (h : HouseClock) (c : Int) : HouseClock :=
  match h.state with
  | .acquire =>
    if c.natAbs ≤ 5 then
      { h with inTolerance := h.inTolerance + 1, state := if 4 ≤ h.inTolerance + 1 then .locked else .acquire }
    else { h with inTolerance := 0 }
  | .locked => if c.natAbs ≤ 100 then h else { h with state := .acquire, inTolerance := 0 }
  | .off | .holdover => h

/-- R30, R31: a measurement with correction `c` at the edge stamped `stamp`. -/
def HouseClock.measure (h : HouseClock) (c : Int) (stamp : Nat) : HouseClock :=
  HouseClock.judge
    { h with
      lastCorrection := some c
      limit := limitAfter h.loop h.trim c
      trim := match h.loop with
        | .track => trackedTrim h.trim c
        | .fixed => h.trim
      windowStart := some stamp
      edgeCount := 0 } c

/-- R29: an edge screened against the last accepted edge, in ACQUIRE or LOCKED. -/
def HouseClock.screen (h : HouseClock) (period : Nat) : HouseClock :=
  let stamp := h.fineStamp
  match h.windowStart, h.lastEdge with
  | some s0, some last =>
    let g := h.tick - last / Config.finePerTick
    if 2 * g < period then h
    else if 2 * g ≤ 3 * period then
      let h := { h with edgeCount := h.edgeCount + 1, lastEdge := some stamp, nextExpected := some (h.tick + period) }
      if h.edgeCount < 16 then h else h.measure (correctionOf s0 stamp period) stamp
    else
      let h := h.startWindow stamp period
      match h.state with
      | .acquire => { h with inTolerance := 0 }
      | .off | .locked | .holdover => h
  | _, _ => h.startWindow stamp period

/-- R25, R29, R35: an edge of the reference source is taken at this tick. -/
def State.takeEdge (s : State) : State :=
  if s.hc.full then s
  else
    let old := s.hc
    match old.state with
    | .off => s
    | .acquire | .locked => (s.modHc (fun h => h.screen s.refPeriod)).reportReference old
    | .holdover =>
      (s.modHc (fun h =>
        { (h.forget.startWindow h.fineStamp s.refPeriod) with state := .acquire, stale := false, holdoverSince := none
        })).reportReference old

/-- R27: input lane `i`'s edge reaches the House Clock where the lane is the reference source. -/
def State.laneEdge (s : State) (i : LaneId) : State := if s.hc.source = .lane i then s.takeEdge else s

/-- R34: the entry to HOLDOVER, from ACQUIRE or LOCKED. -/
def State.enterHoldover (s : State) : State :=
  match s.hc.state with
  | .acquire | .locked =>
    (s.modHc (fun h => { h.forget with state := .holdover, holdoverSince := some h.tick })).reportReference s.hc
  | .off | .holdover => s

/-- R34: the House Clock takes lane `i` as gone SILENT. -/
def State.laneSilent (s : State) (i : LaneId) : State :=
  if s.hc.source = .lane i ∧ !s.hc.full then s.enterHoldover else s

/-- R34, R25: the loss expiry is due. -/
def State.lossDue (s : State) : Bool :=
  !s.hc.full && (s.hc.state == .acquire || s.hc.state == .locked)
    && (match s.hc.nextExpected with
      | some t => decide (t + 2 * s.refPeriod ≤ s.tick)
      | none => false)

/-- R36, R25: the STALE expiry is due. -/
def State.staleDue (s : State) : Bool :=
  !s.hc.full && s.hc.state == .holdover && !s.hc.stale
    && (match s.hc.holdoverSince with
      | some t => decide (t + Config.staleTicks ≤ s.tick)
      | none => false)

/-- R32, R38: the reference settings stored and the state they give entered; `trim = none` is KEEP. A request acts so also while
HOUSE_FULL stands (DEDUCED, log entry 28). -/
def State.applyReference (s : State) (src : RefSource) (rate : RateCode) (loop : LoopMode) (trim : Option Int) : State :=
  let old := s.hc
  let period := s.periodOf src rate
  (s.modHc (fun h =>
    { h.forget with
      source := src
      refRate := rate
      loop := loop
      trim := (trim.map clampTrim).getD h.trim
      state := if src = .off then .off else .acquire
      nextExpected := if src = .off then none else some (h.tick + period)
      stale := false
      holdoverSince := none })).reportReference old

/-- R38: a source that is an input lane of kind OFF is refused. -/
def State.refSourceFits (s : State) : RefSource → Bool
  | .off | .refInput => true
  | .lane i => (s.input i).settings.kind != .off

/-- R38: the trim field; the outer `none` is an unknown mode. -/
def trimFieldOf (mode : Byte) (v : BitVec 16) : Option (Option Int) :=
  match mode.toNat with
  | 0 => some none
  | 1 => some (some v.toInt)
  | _ => none

/-- R38: SET REFERENCE. -/
def setReferenceRequest (source rateClass loop trimMode : Byte) (trim : BitVec 16) (s : State) : State × Reply :=
  match refSourceOf source, rateOf rateClass, loopOf loop, trimFieldOf trimMode trim with
  | some src, some r, some lp, some t =>
    if s.refSourceFits src then
      let s := s.applyReference src r lp t
      (s, .ok ([s.hc.source.code, char s.hc.refRate.cls, s.hc.loop.code] ++ signedChars 2 s.hc.trim ++ [s.hc.state.code]))
    else (s, .no .badValue)
  | _, _, _, _ => (s, .no .badValue)

/-- R39: the reference phase: the last accepted edge tick mod P_ref. -/
def State.referencePhase (s : State) : Option Nat :=
  s.hc.lastEdge.map (fun st => st / Config.finePerTick % s.refPeriod)

/-- R39: READ REFERENCE's items. -/
def State.referenceItems (s : State) : List Byte :=
  [s.hc.source.code, char s.hc.refRate.cls] ++ bytesOf 2 s.refPeriod ++ [s.hc.loop.code, s.hc.state.code] ++ signedChars 2 s.hc.trim
    ++ presentOr 4 (signedChars 4) s.hc.lastCorrection ++ [s.hc.flags, char s.hc.inTolerance] ++ presentOr 2 (bytesOf 2) s.referencePhase

/-! ### Meanings -/

/-- SET_REFERENCE (R38). -/
def execSetReference (l : LinkId) (source rateClass loop trimMode : Byte) (trim : BitVec 16) (s : State) :
    Host.Outcome State Fault Refusal :=
  .next (takeRequest l (.setReference l source rateClass loop trimMode trim) (setReferenceRequest source rateClass loop trimMode trim) s)

/-- READ_REFERENCE (R39). -/
def execReadReference (l : LinkId) (s : State) : Host.Outcome State Fault Refusal :=
  .next (takeRequest l (.readReference l) (fun s => (s, .ok s.referenceItems)) s)

/-- REFERENCE_EDGE (R27, R29): the leading edge of a frame pulse on the reference input; ignored while the source is not REF. -/
def execReferenceEdge (s : State) : Host.Outcome State Fault Refusal :=
  .next (if s.hc.source = .refInput then s.takeEdge else s)

/-- LOSS_EXPIRY (R34). -/
def execLossExpiry (s : State) : Host.Outcome State Fault Refusal := .next (if s.lossDue then s.enterHoldover else s)

/-- STALE_EXPIRY (R36). -/
def execStaleExpiry (s : State) : Host.Outcome State Fault Refusal :=
  .next (if s.staleDue then (s.modHc (fun h => { h with stale := true })).reportReference s.hc else s)

end Sys2Proof.Machine
end

