-- ==== Sys2Proof/Machine/OutputLanes.lean ====
section
/-! DEFINITION. Output Lanes (chapter 05): configurations and effect boundaries, PULSE, TIMECODE and WORDCLOCK lanes, what a
house change does to them, SET OUTPUT and READ OUTPUT. -/

namespace Sys2Proof.Machine

/-! ### Configurations -/

/-- R84 step 3, R87: a configuration accepted at tick `r` with its timeline and phase origin. -/
def setupOf (house : Timeline) (r : Nat) (c : OutConfig) : OutSetup :=
  match c with
  | .off | .pulse .. => ⟨c, none, 0⟩
  | .timecode rate drop tl _ =>
    match tl with
    | .follow => ⟨c, some (follow house rate drop), 0⟩
    | .own o l => ⟨c, some ⟨rate, drop, o, l⟩, 0⟩
  | .wordclock .. => ⟨c, none, r⟩

/-- R82: the stream origin of a lane's configuration; none for kind OFF. -/
def OutSetup.streamOrigin (su : OutSetup) : Option Nat :=
  match su.config with
  | .off => none
  | .pulse .. => some 0
  | .timecode .. => su.timeline.map Timeline.origin
  | .wordclock .. => some su.phase

/-- R84 step 5, R93: the first boundary of a timeline at or after `c`. -/
def Timeline.boundaryFrom (tl : Timeline) (c : Nat) : Nat := boundaryAtOrAfter tl.origin tl.rate.period c

/-- R84 step 5: the effect boundary of a configuration accepted at tick `r`. -/
def OutSetup.effectBoundary (su : OutSetup) (r : Nat) : Nat :=
  match su.config with
  | .off | .wordclock .. => r
  | .pulse rate .. => gridAtOrAfter rate.period r
  | .timecode .. => (su.timeline.map (fun tl => tl.boundaryFrom r)).getD r

/-- R84: a lane after a SET OUTPUT accepted at tick `r`: the line at the idle level, any word abandoned, the clap indication
clear, and the state the effect boundary gives. -/
def OutLane.accept (o : OutLane) (su : OutSetup) (r : Nat) : OutLane :=
  let b := su.effectBoundary r
  if su.config = .off then ⟨.off, some su, none, none, 0, none, none, false⟩
  else if b = r then ⟨.running, some su, none, some b, 0, none, none, false⟩
  else ⟨.waiting, o.inForce, some su, some b, 0, none, none, false⟩

/-- R84: SET OUTPUT's effect on lane `o` with configuration `c`, taken now. -/
def State.acceptOutput (s : State) (o : LaneId) (c : OutConfig) : State :=
  s.modOutput o (fun v => v.accept (setupOf s.tu.house s.tick c) s.tick)

/-- R84: the boundary the response carries: the lane's new effect boundary, r itself for OFF. -/
def OutLane.acceptedBoundary (o : OutLane) (r : Nat) : Nat := o.nextBoundary.getD r

/-- R83, R84: SET OUTPUT. -/
def setOutputRequest (lane kind : Byte) (fields : OutputFields) (s : State) : State × Reply :=
  match laneOf lane, outConfigOf kind fields with
  | some o, some c =>
    let t := s.acceptOutput o c
    let v := t.output o
    (t, .ok ((setupOf s.tu.house s.tick c).chars ++ bytesOf 7 (v.acceptedBoundary s.tick) ++ [v.state.code]))
  | _, _ => (s, .no .badValue)

/-! ### Words, pulses and edges -/

/-- R88, R91: the word in flight abandoned at tick `c`; a clap it carried is indicated again where its end tick is still
ahead. -/
def OutLane.abandonWord (o : OutLane) (c : Nat) : OutLane :=
  match o.word with
  | some w => { o with word := none, clapped := o.clapped || (w.fields.clap && decide (c < w.endTick)) }
  | none => o

/-- R93: a TIMECODE lane with FOLLOW after a house change applied at tick `c`. -/
def OutLane.followHouse (house : Timeline) (c : Nat) (o : OutLane) : OutLane :=
  match o.newest with
  | some ⟨.timecode rate drop .follow u, tl, ph⟩ =>
    let new := follow house rate drop
    if tl = some new then o
    else
      let su : OutSetup := ⟨.timecode rate drop .follow u, some new, ph⟩
      match o.waiting with
      | some _ => { o with waiting := some su, nextBoundary := some (new.boundaryFrom c) }
      | none => { o.abandonWord c with inForce := some su, nextBoundary := some (new.boundaryFrom c) }
  | _ => o

/-- R95: a lane at the tick HOUSE_FULL is set: the line low, the word in flight abandoned. -/
def OutLane.idleAtFull (o : OutLane) (c : Nat) : OutLane := { o.abandonWord c with highUntil := none }

/-- R85: the effect boundary of a WAITING lane is due. -/
def State.effectDue (s : State) (o : LaneId) : Bool :=
  let v := s.output o
  !s.hc.full && v.state == .waiting && (match v.nextBoundary with
    | some b => decide (b ≤ s.tick)
    | none => false)

/-- R85: the pending configuration comes into force. Its first unit boundary is the effect boundary itself. -/
def OutLane.comeIntoForce (o : OutLane) : OutLane :=
  { o with state := .running, inForce := o.waiting, waiting := none, unitIndex := 0 }

/-- R86: the placement, duration and period of a RUNNING PULSE lane. -/
def OutLane.pulseShape (o : OutLane) : Option (Nat × Nat × Nat) :=
  match o.state, o.inForce with
  | .running, some ⟨.pulse rate _ pl du, _, _⟩ => some (pl, du, rate.period)
  | _, _ => none

/-- R86: the pulse of the lane's next frame start is to be asserted now. -/
def State.pulseStartDue (s : State) (o : LaneId) : Bool :=
  let v := s.output o
  !s.hc.full && (match v.pulseShape, v.nextBoundary with
    | some (pl, _, _), some b => decide (b + pl ≤ s.tick)
    | _, _ => false)

/-- R86: the pulse of frame start b is asserted at b + placement and will end at b + placement + duration. -/
def OutLane.assertPulse (o : OutLane) : OutLane :=
  match o.pulseShape, o.nextBoundary with
  | some (pl, du, p), some b => { o with highUntil := some (b + pl + du), nextBoundary := some (b + p) }
  | _, _ => o

/-- R86: the pulse being asserted is to end now. -/
def State.pulseEndDue (s : State) (o : LaneId) : Bool :=
  let v := s.output o
  !s.hc.full && v.pulseShape.isSome && (match v.highUntil with
    | some e => decide (e ≤ s.tick)
    | none => false)

/-- R87: the timeline and settings of a RUNNING TIMECODE lane. -/
def OutLane.wordShape (o : OutLane) : Option (Timeline × UserSource) :=
  match o.state, o.inForce with
  | .running, some ⟨.timecode _ _ _ u, some tl, _⟩ => some (tl, u)
  | _, _ => none

/-- R88: a frame boundary of a RUNNING TIMECODE lane is due. -/
def State.compositionDue (s : State) (o : LaneId) : Bool :=
  let v := s.output o
  !s.hc.full && v.wordShape.isSome && (match v.nextBoundary with
    | some b => decide (b ≤ s.tick)
    | none => false)

/-- R92: the user field under a user source. -/
def State.userField (s : State) (u : UserSource) : UserField :=
  match u with
  | .constant v => v
  | .take =>
    match s.slateTake with
    | some t => if t.state = .rolling then BitVec.ofNat 24 t.id else 0#24
    | none => 0#24

/-- R89 to R92: the fields of the word composed at boundary `b`, for the frame starting at b + P. -/
def State.composedFields (s : State) (tl : Timeline) (u : UserSource) (clapped : Bool) (b : Nat) : WordFields where
  label := tl.labelAt ((b + tl.rate.period : Nat) : Int)
  drop := tl.drop
  run := decide (0 < s.tt.rollingCount)
  clap := clapped
  rateClass := tl.rate.cls
  user := s.userField u

/-- R88: at boundary b the lane composes the word that ends at b + P. -/
def State.composeWord (s : State) (o : LaneId) : State :=
  let v := s.output o
  match v.wordShape, v.nextBoundary with
  | some (tl, u), some b =>
    let f := s.composedFields tl u v.clapped b
    s.modOutput o (fun v =>
      { v with
        word := some ⟨f, crc8 (bitsOfFields f), b + tl.rate.period⟩
        clapped := false
        nextBoundary := some (b + tl.rate.period) })
  | _, _ => s

/-- R94: the stream of a RUNNING WORDCLOCK lane. -/
def OutLane.sampleStream (o : OutLane) : Option Stream :=
  match o.state, o.inForce with
  | .running, some ⟨.wordclock sr p, _, ph⟩ => some (audioStream sr p ph)
  | _, _ => none

/-- R94: the next sample edge is due. -/
def State.riseDue (s : State) (o : LaneId) : Bool :=
  let v := s.output o
  !s.hc.full && v.sampleStream.isSome && (match v.nextBoundary with
    | some b => decide (b ≤ s.tick)
    | none => false)

/-- R94: at the start of unit k the line rises, to fall at the middle of the unit; the next boundary is unit k + 1. -/
def OutLane.riseEdge (o : OutLane) : OutLane :=
  match o.sampleStream with
  | some st =>
    { o with
      highUntil := some (st.fallOf o.unitIndex)
      unitIndex := o.unitIndex + 1
      nextBoundary := some (st.startOf (o.unitIndex + 1)) }
  | none => o

/-- R94: the fall of the sample edge is due. -/
def State.fallDue (s : State) (o : LaneId) : Bool :=
  let v := s.output o
  !s.hc.full && v.sampleStream.isSome && (match v.highUntil with
    | some e => decide (e ≤ s.tick)
    | none => false)

/-- The line drops to the idle level (R86, R94). -/
def OutLane.dropLine (o : OutLane) : OutLane := { o with highUntil := none }

/-! ### READ OUTPUT -/

/-- R96: the next unit boundary as reported. A PULSE lane reports the next frame start at or after the current tick whose
frame it has not begun. -/
def OutLane.reportedBoundary (o : OutLane) (now : Nat) : Option Nat :=
  match o.pulseShape with
  | some (_, _, p) => o.nextBoundary.map (fun b => max b (gridAtOrAfter p now))
  | none => o.nextBoundary

/-- R96: the unit index reported with a WORDCLOCK lane's next edge. -/
def OutLane.reportedUnit (o : OutLane) : Option Nat := o.sampleStream.map (fun _ => o.unitIndex)

/-- R96: the word in flight: label, flags, user field, rate class, end tick. -/
def InFlight.chars (w : InFlight) : List Byte :=
  labelChars w.fields.label w.fields.drop ++ [flagsChar [w.fields.drop, w.fields.run, w.fields.clap]] ++ bytesOf 3 w.fields.user.toNat
    ++ [char w.fields.rateClass] ++ bytesOf 7 w.endTick

/-- R96: READ OUTPUT's items. The stream origin is the newest accepted configuration's, so in WAITING the pending one's (DEDUCED, log
entry 29). -/
def State.outputItems (s : State) (o : LaneId) : List Byte :=
  let v := s.output o
  [v.state.code] ++ presentOr 18 OutSetup.chars v.inForce ++ presentOr 18 OutSetup.chars v.waiting
    ++ presentOr 6 (bytesOf 6) (v.newest.bind OutSetup.streamOrigin) ++ presentOr 7 (bytesOf 7) (v.reportedBoundary s.tick)
    ++ presentOr 6 (bytesOf 6) v.reportedUnit ++ presentOr 17 InFlight.chars v.word
    ++ presentOr 1 (fun b => [flagChar b]) (if v.isTimecode then some v.clapped else none) ++ [flagChar s.hc.full]

/-- R96: READ OUTPUT. -/
def readOutputRequest (lane : Byte) (s : State) : State × Reply :=
  match laneOf lane with
  | some o => (s, .ok (s.outputItems o))
  | none => (s, .no .badValue)

/-! ### Meanings -/

/-- SET_OUTPUT (R83, R84). -/
def execSetOutput (l : LinkId) (lane kind : Byte) (fields : OutputFields) (s : State) : Host.Outcome State Fault Refusal :=
  .next (takeRequest l (.setOutput l lane kind fields) (setOutputRequest lane kind fields) s)

/-- READ_OUTPUT (R96). -/
def execReadOutput (l : LinkId) (lane : Byte) (s : State) : Host.Outcome State Fault Refusal :=
  .next (takeRequest l (.readOutput l lane) (readOutputRequest lane) s)

/-- EFFECT_BOUNDARY (R85). -/
def execEffectBoundary (o : LaneId) (s : State) : Host.Outcome State Fault Refusal :=
  .next (if s.effectDue o then s.modOutput o OutLane.comeIntoForce else s)

/-- PULSE_START (R86). -/
def execPulseStart (o : LaneId) (s : State) : Host.Outcome State Fault Refusal :=
  .next (if s.pulseStartDue o then s.modOutput o OutLane.assertPulse else s)

/-- PULSE_END (R86). -/
def execPulseEnd (o : LaneId) (s : State) : Host.Outcome State Fault Refusal :=
  .next (if s.pulseEndDue o then s.modOutput o OutLane.dropLine else s)

/-- WORD_COMPOSITION (R88). -/
def execWordComposition (o : LaneId) (s : State) : Host.Outcome State Fault Refusal :=
  .next (if s.compositionDue o then s.composeWord o else s)

/-- WORDCLOCK_RISE (R94). -/
def execWordclockRise (o : LaneId) (s : State) : Host.Outcome State Fault Refusal :=
  .next (if s.riseDue o then s.modOutput o OutLane.riseEdge else s)

/-- WORDCLOCK_FALL (R94). -/
def execWordclockFall (o : LaneId) (s : State) : Host.Outcome State Fault Refusal :=
  .next (if s.fallDue o then s.modOutput o OutLane.dropLine else s)

end Sys2Proof.Machine
end

