-- ==== Sys2Proof/Machine/Timeline.lean ====
section
/-! DEFINITION. House Timeline and Jam (chapter 03): applying a house change, the pending change, SET HOUSE, JAM, UNJAM,
auto-jam, and READ CLOCK (R163). -/

namespace Sys2Proof.Machine

/-! ### Applying a change (R47) -/

/-- R52: a timeline pushed on the jam history, which keeps the newest 3. -/
def pushHistory (old : Timeline) (history : List Timeline) : List Timeline := (old :: history).take 3

/-- R43: an input lane's expected timeline under a house timeline: a TIMECODE lane's derived timeline, else none. -/
def InSettings.expectedUnder (set : InSettings) (house : Timeline) : Option Timeline :=
  if set.kind = .timecode then some (follow house set.rate set.drop) else none

/-- R47 steps 3 and 4, R70: an input lane after a house change: its expected timeline formed anew, the rebaseline mark set
and the current statistics window emptied. -/
def InLane.rebase (v : InLane) (house : Timeline) : InLane :=
  { v with expected := v.settings.expectedUnder house, rebaseline := true, window := emptyWindow }

/-- R47 steps 2 to 5: the new house timeline installed, the lanes re-derived and the notice handed over. -/
def State.installHouse (s : State) (tl : Timeline) (cause : HouseCause) (lane : Option LaneId) : State :=
  let s := s.modTu (fun t => { t with house := tl })
  let s := { s with outputs := s.outputs.map (OutLane.followHouse tl s.tick) }
  let s := { s with inputs := s.inputs.map (fun v : InLane => v.rebase tl) }
  s.post (.houseChanged cause tl s.tu.history.length lane)

/-- R47: a change applied: the timeline in force is pushed, then steps 2 to 5. -/
def State.applyHouse (s : State) (tl : Timeline) (cause : HouseCause) (lane : Option LaneId) : State :=
  (s.modTu (fun t => { t with history := pushHistory t.house t.history })).installHouse tl cause lane

/-- R46: the held change is applied with cause DEFERRED. -/
def State.applyPending (s : State) (p : PendingChange) : State :=
  (s.modTu (fun t => { t with change := none })).applyHouse p.timeline .deferred none

/-- R46: a held change is due: it came with NOW or fell due while a take rolled, or its origin tick has been reached. -/
def PendingChange.due (p : PendingChange) (now : Nat) : Bool := p.onRolling || decide (p.timeline.origin ≤ now)

/-- R46, R108: the rolling count has fallen to 0: a due change is applied, another goes on waiting on time. -/
def State.rollingEnded (s : State) : State :=
  match s.tu.change with
  | some p => if p.due s.tick then s.applyPending p else s
  | none => s

/-- R46: the house tick has reached the origin tick of a change held on time. -/
def State.changeDue (s : State) : Bool :=
  match s.tu.change with
  | some p => !p.onRolling && decide (p.timeline.origin ≤ s.tick)
  | none => false

/-- R46: the change held on time falls due: applied if no take rolls, else it waits on rolling. -/
def State.fallDueChange (s : State) : State :=
  match s.tu.change with
  | some p =>
    if s.tt.rollingCount = 0 then s.applyPending p else s.modTu (fun t => { t with change := some { p with onRolling := true } })
  | none => s

/-! ### SET HOUSE (R44, R45) -/

/-- R45: the outcomes of an accepted SET HOUSE. -/
inductive HouseOutcome where
  | applied | heldRolling | heldTime
  deriving DecidableEq, Repr

/-- R45: outcome codes, in the rule's table order. -/
def HouseOutcome.code : HouseOutcome → Byte
  | .applied => 0#8
  | .heldRolling => 1#8
  | .heldTime => 2#8

/-- R45: an accepted SET HOUSE with its origin tick fixed; `now` is that it came with NOW. Any pending change is discarded
first. -/
def State.setHouse (s : State) (tl : Timeline) (now : Bool) : State × HouseOutcome :=
  let s := s.modTu (fun t => { t with change := none })
  if now || decide (tl.origin ≤ s.tick) then
    if s.tt.rollingCount = 0 then (s.applyHouse tl .set none, .applied)
    else (s.modTu (fun t => { t with change := some ⟨tl, true⟩ }), .heldRolling)
  else (s.modTu (fun t => { t with change := some ⟨tl, false⟩ }), .heldTime)

/-- R45: the origin tick of a change given with NOW: the first multiple of P at or after the tick taken. -/
def State.nowOrigin (s : State) (r : RateCode) : Nat := gridAtOrAfter r.period s.tick

/-- R44, R45: SET HOUSE. -/
def setHouseRequest (cls : Byte) (label : LabelField) (atCode : Byte) (tick : BitVec 48) (s : State) : State × Reply :=
  match switchOf atCode, timelineOf cls label tick.toNat with
  | some onTick, some tl =>
    let tl := if onTick then tl else { tl with origin := s.nowOrigin tl.rate }
    if Config.maxTick < tl.origin then (s, .no .range)
    else
      let done := s.setHouse tl (!onTick)
      (done.1, .ok (done.2.code :: tickChars tl.origin))
  | _, _ => (s, .no .badValue)

/-! ### JAM, UNJAM and auto-jam (R49 to R54) -/

/-- R49, R54: the lane's rate code and drop mode equal the house ones. -/
def State.ratesMatch (s : State) (i : LaneId) : Bool :=
  (s.input i).settings.rate == s.tu.house.rate && (s.input i).settings.drop == s.tu.house.drop

/-- R50: the timeline a jam from a good word on lane `i` gives. -/
def State.jamTimeline (s : State) (i : LaneId) (tFrame : Int) (label : Label) : Timeline :=
  ⟨(s.input i).settings.rate, (s.input i).settings.drop, tFrame.toNat, label⟩

/-- R50: a jam applied: any pending change is discarded. -/
def State.applyJam (s : State) (i : LaneId) (tl : Timeline) (cause : HouseCause) : State :=
  (s.modTu (fun t => { t with change := none })).applyHouse tl cause (some i)

/-- R50, R51: the house timeline and history depth, as the JAM and UNJAM responses carry them. -/
def State.houseItems (s : State) : List Byte := timelineChars s.tu.house ++ [char s.tu.history.length]

/-- R49, R50: JAM. -/
def jamRequest (lane : Byte) (s : State) : State × Reply :=
  match laneOf lane with
  | none => (s, .no .badValue)
  | some i =>
    if 0 < s.tt.rollingCount then (s, .no .rolling)
    else
      let v := s.input i
      if v.settings.kind = .timecode ∧ v.state = .tracking then
        if !s.ratesMatch i then (s, .no .rateMismatch)
        else match v.good with
          | some ⟨_, tFrame, some f, _⟩ =>
            if tFrame < 0 then (s, .no .range)
            else
              let t := s.applyJam i (s.jamTimeline i tFrame f.label) .jam
              (t, .ok t.houseItems)
          | _ => (s, .no .notTracking)
      else (s, .no .notTracking)

/-- R51: UNJAM. -/
def unjamRequest (s : State) : State × Reply :=
  if 0 < s.tt.rollingCount then (s, .no .rolling)
  else match s.tu.history with
    | [] => (s, .no .empty)
    | top :: rest =>
      let t := (s.modTu (fun t => { t with history := rest })).installHouse top .unjam none
      (t, .ok t.houseItems)

/-- R53: SET AUTOJAM. -/
def setAutojamRequest (setting : Byte) (s : State) : State × Reply :=
  match autoJamOf setting with
  | some v => (s.modTu (fun t => { t with autoJam := v }), .ok [setting])
  | none => (s, .no .badValue)

/-- R54: an auto-jam trigger from lane `i`, whose latest good word is the triggering word. -/
def State.autoJamTrigger (s : State) (i : LaneId) : State :=
  let v := s.input i
  if s.tu.autoJam = some i ∧ v.settings.kind = .timecode ∧ s.tt.rollingCount = 0 ∧ s.ratesMatch i then
    match v.good with
    | some ⟨_, tFrame, some f, _⟩ => if tFrame < 0 then s else s.applyJam i (s.jamTimeline i tFrame f.label) .autojam
    | _ => s
  else s

/-! ### READ CLOCK (R163) -/

/-- R163: READ CLOCK's 15 characters. -/
def State.clockItems (s : State) : List Byte :=
  tickChars s.tick ++ [s.clockFlags, char s.tu.house.rate.cls] ++ labelChars (s.tu.house.labelAt s.tick) s.tu.house.drop
    ++ bytesOf 2 (s.tu.house.subframeAt s.tick)

/-! ### Meanings -/

/-- SET_HOUSE (R44, R45). -/
def execSetHouse (l : LinkId) (rateClass : Byte) (label : LabelField) (atCode : Byte) (tick : BitVec 48) (s : State) :
    Host.Outcome State Fault Refusal :=
  .next (takeRequest l (.setHouse l rateClass label atCode tick) (setHouseRequest rateClass label atCode tick) s)

/-- JAM (R49, R50). -/
def execJam (l : LinkId) (lane : Byte) (s : State) : Host.Outcome State Fault Refusal :=
  .next (takeRequest l (.jam l lane) (jamRequest lane) s)

/-- UNJAM (R51). -/
def execUnjam (l : LinkId) (s : State) : Host.Outcome State Fault Refusal := .next (takeRequest l (.unjam l) unjamRequest s)

/-- SET_AUTOJAM (R53). -/
def execSetAutojam (l : LinkId) (setting : Byte) (s : State) : Host.Outcome State Fault Refusal :=
  .next (takeRequest l (.setAutojam l setting) (setAutojamRequest setting) s)

/-- PENDING_CHANGE_DUE (R46). -/
def execPendingChangeDue (s : State) : Host.Outcome State Fault Refusal := .next (if s.changeDue then s.fallDueChange else s)

/-- READ_CLOCK (R163). -/
def execReadClock (l : LinkId) (s : State) : Host.Outcome State Fault Refusal :=
  .next (takeRequest l (.readClock l) (fun s => (s, .ok s.clockItems)) s)

end Sys2Proof.Machine
end

