-- ==== Sys2Proof/Machine/TakeTable.lean ====
section
/-! DEFINITION. The Take Table (chapter 06): take requests, lane events, marks, claps on takes, reading and collecting. -/

namespace Sys2Proof.Machine

/-! ### Leaving the table and the pointer (R124, R138) -/

/-- R138: an explicit pointer on a take that reached CLOSED or left the table becomes AUTO. -/
def State.pointerLoses (s : State) (id : Nat) : State :=
  s.modSu fun u => { u with pointer := if u.pointer = .take id then .auto else u.pointer }

/-- R125: the TAKE_STATE notice of a take's change from `prev` to `now`, with the record's ticks as they stand in `t`. -/
def Take.stateNotice (t : Take) (prev now : Option TakeState) (cause : TakeCause) (actor : Origin) : NoticeBody :=
  .takeState t.id prev now cause actor t.start t.endTick

/-- R104, R110: a record removed from the table; the Slate Unit is told, the notice is handed over. -/
def State.removeTake (s : State) (t : Take) (cause : TakeCause) (actor : Origin) : State :=
  ((s.modTt (fun tt =>
    { tt with
      takes := tt.takes.filter (fun k => k.id ≠ t.id)
      tableCount := tt.tableCount - 1
      openCount := if t.state = .closed then tt.openCount else tt.openCount - 1
      rollOrder := tt.rollOrder.filter (· ≠ t.id) })).pointerLoses t.id).post (t.stateNotice (some t.state) none cause actor)

/-! ### ARM (R101 to R104) -/

/-- R101: the first id from `from_`, counting upward and wrapping from 65,535 to 1, that no record holds; `fuel` candidates
are tried. -/
def freeId (held : List Nat) : Nat → Nat → Nat
  | 0, id => id
  | fuel + 1, id => if held.contains id then freeId held fuel (if id = 65535 then 1 else id + 1) else id

/-- R101: the id the next ARM gives. -/
def TakeTable.giveId (tt : TakeTable) : Nat := freeId (tt.takes.map Take.id) (tt.takes.length + 1) tt.nextId

/-- R101: the counter after an id has been given. -/
def counterAfter (id : Nat) : Nat := if id = 65535 then 1 else id + 1

/-- R102 check 2: a lane that may be a participant: TIMECODE, CAMERA or SOUND. -/
def InLane.mayParticipate (v : InLane) : Bool :=
  v.settings.kind == .timecode && (v.settings.role == .camera || v.settings.role == .sound)

/-- R99: a participant entry as ARM leaves it. -/
def newParticipant (i : LaneId) : Participant := ⟨i, none, false, false, 0⟩

/-- R104 step 3: the new record. -/
def newTake (id : Nat) (scene shot : List Byte) (number : Nat) (l : LinkId) (lanes : List LaneId) (autoRoll autoCut : Bool) :
    Take where
  id := id
  scene := scene
  shot := shot
  number := number
  state := .armed
  arming := l
  participants := lanes.map newParticipant
  autoRoll := autoRoll
  autoCut := autoCut
  start := none
  clap := none
  endTick := none
  marks := []
  marksFull := false
  rating := .unrated
  collected := 0#4

/-- R100: an open take: ARMED, ROLLING or CUT. -/
def Take.isOpen (t : Take) : Bool := t.state != .closed

/-- R104: a record that eviction may remove: CLOSED, with a non-empty collected set. -/
def Take.evictable (t : Take) : Bool := t.state == .closed && t.collected != 0#4

/-- R104 step 1: the record evicted by an ARM taken now, if any. -/
def State.evicted (s : State) : Option Take := if s.tt.tableCount = 64 then s.tt.takes.find? Take.evictable else none

/-- R104 steps 2 to 5: the new record appended in ARMED. -/
def State.appendTake (s : State) (t : Take) : State :=
  (s.modTt (fun tt =>
    { tt with
      takes := tt.takes ++ [t]
      nextId := counterAfter t.id
      tableCount := tt.tableCount + 1
      openCount := tt.openCount + 1 })).post (t.stateNotice none (some .armed) .arm (.link t.arming))

/-- R102 to R104: ARM. -/
def armRequest (l : LinkId) (scene shot : List Byte) (number : BitVec 16) (flags count : Byte) (slots : List Byte) (s : State) :
    State × Reply :=
  match textOf scene, textOf shot, participantsOf count slots with
  | some sc, some sh, some lanes =>
    if sc = [] ∨ number.toNat = 0 ∨ 999 < number.toNat ∨ 3 < flags.toNat then (s, .no .badValue)
    else if !(lanes.all (fun i => (s.input i).mayParticipate)) || !decide lanes.Nodup then (s, .no .badParticipant)
    else if s.tt.takes.any (fun t => t.isOpen && t.scene == sc && t.shot == sh && t.number == number.toNat) then (s, .no .duplicate)
    else if s.tt.openCount = 8 then (s, .no .openFull)
    else if s.tt.tableCount = 64 ∧ s.evicted = none then (s, .no .tableFull)
    else
      let out := s.evicted
      let s := match out with
        | some t => s.removeTake t .evict (.link l)
        | none => s
      let id := s.tt.giveId
      let s := s.appendTake (newTake id sc sh number.toNat l lanes (flags.getLsbD 0) (flags.getLsbD 1))
      (s, .ok (bytesOf 2 id ++ presentOr 2 (bytesOf 2) (out.map Take.id)))
  | _, _, _ => (s, .no .badValue)

/-! ### Rolling and cutting (R105 to R109, R115, R119) -/

/-- R57, R73: a CAMERA or SOUND role. -/
def Role.isUnit (r : Role) : Bool := r == .camera || r == .sound

/-- R106: a participant at the roll, from its lane as it stands. -/
def State.rolledParticipant (s : State) (p : Participant) : Participant :=
  let v := s.input p.lane
  { p with
    rollTag :=
      if v.settings.kind = .timecode ∧ v.state = .tracking then (v.good.bind GoodArrival.fields).map WordFields.user else none
    runSeen := p.runSeen || (v.state == .tracking && v.runLevel && v.settings.role.isUnit) }

/-- R105, R115: a take rolled at `start`: its participants by R106 (and lane `x` run-seen where an auto-roll names it), the
rolling count, the roll-order list and the notice. -/
def State.rollTake (s : State) (t : Take) (start : Nat) (cause : TakeCause) (actor : Origin) (x : Option LaneId) : State :=
  let parts := (t.participants.map s.rolledParticipant).map (fun p => if x = some p.lane then { p with runSeen := true } else p)
  let t' : Take := { t with state := .rolling, start := some start, participants := parts }
  ((s.modTake t.id (fun _ => t')).modTt (fun tt =>
    { tt with rollingCount := tt.rollingCount + 1, rollOrder := tt.rollOrder ++ [t.id] })).post
      (t'.stateNotice (some t.state) (some .rolling) cause actor)

/-- R105 check 4: a participant's lane is a participant of another ROLLING take. -/
def State.lanesBusy (s : State) (t : Take) : Bool := t.participants.any (fun p => (s.rollingTakeOf p.lane).isSome)

/-- R105: ROLL. -/
def rollRequest (l : LinkId) (id : BitVec 16) (s : State) : State × Reply :=
  match s.take? id.toNat with
  | none => (s, .no .noTake)
  | some t =>
    if t.state ≠ .armed then (s, .refused .wrongState (some t.state))
    else if s.tt.rollingCount = 4 then (s, .no .rollLimit)
    else if s.lanesBusy t then (s, .no .laneBusy)
    else (s.rollTake t s.tick .roll (.link l) none, .ok (tickChars s.tick))

/-- R108: a take leaves ROLLING with its end tick; a rolling count of 0 is handed to the Timeline Unit. -/
def State.cutTake (s : State) (t : Take) (endTick : Nat) (cause : TakeCause) (actor : Origin) : State :=
  let t' : Take := { t with state := .cut, endTick := some endTick }
  let s := ((s.modTake t.id (fun _ => t')).modTt (fun tt => { tt with rollingCount := tt.rollingCount - 1 })).post
    (t'.stateNotice (some t.state) (some .cut) cause actor)
  if s.tt.rollingCount = 0 then s.rollingEnded else s

/-- R107: CUT. -/
def cutRequest (l : LinkId) (id : BitVec 16) (s : State) : State × Reply :=
  match s.take? id.toNat with
  | none => (s, .no .noTake)
  | some t =>
    if t.state ≠ .rolling then (s, .refused .wrongState (some t.state))
    else (s.cutTake t s.tick .cut (.link l), .ok (tickChars s.tick))

/-- R109: a CUT take closed. -/
def State.closeTake (s : State) (t : Take) (actor : Origin) : State :=
  let t' : Take := { t with state := .closed }
  (((s.modTake t.id (fun _ => t')).modTt (fun tt =>
    { tt with openCount := tt.openCount - 1, rollOrder := tt.rollOrder.filter (· ≠ t.id) })).pointerLoses t.id).post
      (t'.stateNotice (some t.state) (some .closed) .close actor)

/-- R109: CLOSE. -/
def closeRequest (l : LinkId) (id : BitVec 16) (s : State) : State × Reply :=
  match s.take? id.toNat with
  | none => (s, .no .noTake)
  | some t => if t.state ≠ .cut then (s, .refused .wrongState (some t.state)) else (s.closeTake t (.link l), .ok [])

/-- R110: VOID. -/
def voidRequest (l : LinkId) (id : BitVec 16) (s : State) : State × Reply :=
  match s.take? id.toNat with
  | none => (s, .no .noTake)
  | some t =>
    match t.state with
    | .rolling => (s, .refused .wrongState (some .rolling))
    | .armed | .cut => (s.removeTake t .void (.link l), .ok [])
    | .closed => if t.collected = 0#4 then (s.removeTake t .void (.link l), .ok []) else (s, .no .collected)

/-- R111: RATE. -/
def rateRequest (id : BitVec 16) (rating : Byte) (s : State) : State × Reply :=
  match ratingOf rating with
  | none => (s, .no .badValue)
  | some r =>
    match s.take? id.toNat with
    | none => (s, .no .noTake)
    | some t => (s.modTake t.id (fun t => { t with rating := r }), .ok [r.code])

/-! ### Marks (R112 to R114) -/

/-- R112: a mark inserted after every mark at or below its tick. -/
def insertMark (m : Mark) : List Mark → List Mark
  | [] => [m]
  | x :: xs => if x.tick ≤ m.tick then x :: insertMark m xs else m :: x :: xs

/-- R112: a record after a mark has been offered: stored where fewer than 16 stand, else MARKS_FULL set. -/
def Take.afterMark (t : Take) (m : Mark) : Take :=
  if t.marks.length < 16 then { t with marks := insertMark m t.marks } else { t with marksFull := true }

/-- R112: a mark offered to a take's list; the first one not stored sends a MARKS_FULL notice. -/
def State.offerMark (s : State) (t : Take) (m : Mark) : State :=
  let s' := s.modTake t.id (fun k => k.afterMark m)
  if 16 ≤ t.marks.length ∧ !t.marksFull then s'.post (.marksFull t.id m.tick m.kind) else s'

/-- R113 check 5: the largest tick a mark may bear: the current tick while ROLLING, the end tick after. -/
def Take.markBound (t : Take) (now : Nat) : Nat := if t.state = .rolling then now else t.endTick.getD now

/-- R113: a mark's tick lies in [start, bound]. -/
def Take.markFits (t : Take) (now tick : Nat) : Bool := decide (t.start.getD 0 ≤ tick) && decide (tick ≤ t.markBound now)

/-- R113: MARK. -/
def markRequest (l : LinkId) (id : BitVec 16) (tickMode : Byte) (tick : BitVec 48) (code : Byte) (s : State) : State × Reply :=
  match switchOf tickMode with
  | none => (s, .no .badValue)
  | some explicit =>
    match s.take? id.toNat with
    | none => (s, .no .noTake)
    | some t =>
      if t.state = .armed then (s, .refused .wrongState (some .armed))
      else if !explicit && t.state != .rolling then (s, .no .range)
      else
        let at_ := if explicit then tick.toNat else s.tick
        if !t.markFits s.tick at_ then (s, .no .range)
        else
          let m : Mark := ⟨at_, .mark, .link l, code.toNat⟩
          let t' := t.afterMark m
          (s.offerMark t m, .ok [flagChar (decide (t.marks.length < 16)), char t'.marks.length, flagChar t'.marksFull])

/-! ### Lane events (R115 to R119) -/

/-- A participant of a take through `f`. -/
def Take.modParticipant (t : Take) (i : LaneId) (f : Participant → Participant) : Take :=
  { t with participants := t.participants.map (fun p => if p.lane = i then f p else p) }

/-- R119: some participant has run, and every one that has run has stopped. -/
def Take.autoCutPasses (t : Take) : Bool :=
  t.participants.any (fun p => p.runSeen) && t.participants.all (fun p => !p.runSeen || p.stopped)

/-- R119: the end tick of an auto-cut: the largest of the stop tick, the last mark's tick, the clap tick and the start tick. -/
def Take.autoCutEnd (t : Take) (stop : Nat) : Nat :=
  max (max stop ((t.marks.getLast?.map Mark.tick).getD 0)) (max (t.clap.getD 0) (t.start.getD 0))

/-- R119: the auto-cut test on the record that holds `id`, made by lane `i`'s stop at tick `stop`. -/
def State.autoCutTest (s : State) (id : Nat) (stop : Nat) (i : LaneId) : State :=
  match s.take? id with
  | some t =>
    if t.state = .rolling ∧ t.autoCut ∧ t.autoCutPasses then s.cutTake t (t.autoCutEnd stop) .autoCut (.lane i) else s
  | none => s

/-- R115: a RUN_START from lane `i` with its stamp. -/
def State.runStart (s : State) (i : LaneId) (stamp : Nat) : State :=
  match s.rollingTakeOf i with
  | some t => s.modTake t.id (fun t => t.modParticipant i (fun p => { p with runSeen := true, stopped := false }))
  | none =>
    match s.tt.takes.find? (fun t => t.state == .armed && t.autoRoll && t.lists i) with
    | none => s
    | some t =>
      if s.tt.rollingCount = 4 then s.post (.autoRollRefused t.id i .rollLimit)
      else if s.lanesBusy t then s.post (.autoRollRefused t.id i .laneBusy)
      else s.rollTake t stamp .autoRoll (.lane i) (some i)

/-- R116: a RUN_STOP from lane `i` with its stamp. -/
def State.runStop (s : State) (i : LaneId) (stamp : Nat) : State :=
  match s.rollingTakeOf i with
  | some t => (s.modTake t.id (fun t => t.modParticipant i (fun p => { p with stopped := true }))).autoCutTest t.id stamp i
  | none => s

/-- R117, R118: the tick of a lane mark: the larger of the stamp and the start tick. -/
def Take.laneMarkTick (t : Take) (stamp : Nat) : Nat := max stamp (t.start.getD 0)

/-- R117: a DROPOUT from lane `i` with its stamp. -/
def State.takeDropout (s : State) (i : LaneId) (stamp : Nat) : State :=
  match s.rollingTakeOf i with
  | some t =>
    let tick := t.laneMarkTick stamp
    ((s.offerMark t ⟨tick, .dropout, .lane i, 0⟩).modTake t.id
      (fun t => t.modParticipant i (fun p => { p with slips := bumpByte p.slips, stopped := true }))).autoCutTest t.id tick i
  | none => s

/-- R118: a SLIP from lane `i` with its stamp. -/
def State.takeSlip (s : State) (i : LaneId) (stamp : Nat) : State :=
  match s.rollingTakeOf i with
  | some t =>
    (s.offerMark t ⟨t.laneMarkTick stamp, .slip, .lane i, 0⟩).modTake t.id
      (fun t => t.modParticipant i (fun p => { p with slips := bumpByte p.slips }))
  | none => s

/-! ### Claps (R120) -/

/-- R120: what the Take Table answers to a clap. -/
inductive ClapAnswer where
  | first (id : Nat)
  | second (id : Nat)
  | loose
  deriving DecidableEq, Repr

/-- R120: a clap handed to the Take Table. -/
def State.clapOnTake (s : State) (stamp : Nat) (source : Origin) : State × ClapAnswer :=
  match s.slateTake with
  | some t =>
    if t.state = .rolling ∧ t.start.getD 0 ≤ stamp then
      match t.clap with
      | none => (s.modTake t.id (fun t => { t with clap := some stamp }), .first t.id)
      | some _ => (s.offerMark t ⟨stamp, .secondClap, source, 0⟩, .second t.id)
    else (s, .loose)
  | none => (s, .loose)

/-! ### Reading and collecting (R121 to R123) -/

/-- R121: READ TAKE. -/
def readTakeRequest (id : BitVec 16) (s : State) : State × Reply :=
  match s.take? id.toNat with
  | some t => (s, .ok t.record)
  | none => (s, .no .noTake)

/-- R122: an entry of LIST TAKES. -/
def Take.listEntry (t : Take) : List Byte := bytesOf 2 t.id ++ [t.state.code]

/-- R122: LIST TAKES. -/
def listTakesRequest (start : Byte) (s : State) : State × Reply :=
  if 63 < start.toNat then (s, .no .badValue)
  else
    let shown := (s.tt.takes.drop start.toNat).take 12
    (s, .ok ([char s.tt.tableCount, char shown.length] ++ shown.flatMap Take.listEntry))

/-- R123: a record with a link in its collected set. -/
def Take.collectedBy (t : Take) (l : LinkId) : Take := { t with collected := t.collected ||| (1#4 <<< l.val) }

/-- R123: COLLECT. -/
def collectRequest (l : LinkId) (id : BitVec 16) (s : State) : State × Reply :=
  match s.take? id.toNat with
  | none => (s, .no .noTake)
  | some t =>
    if t.state ≠ .closed then (s, .refused .wrongState (some t.state))
    else (s.modTake t.id (fun t => t.collectedBy l), .ok (t.collectedBy l).record)

/-! ### Meanings -/

/-- ARM (R102 to R104). -/
def execArm (l : LinkId) (scene shot : List Byte) (number : BitVec 16) (flags count : Byte) (slots : List Byte) (s : State) :
    Host.Outcome State Fault Refusal :=
  .next (takeRequest l (.arm l scene shot number flags count slots) (armRequest l scene shot number flags count slots) s)

/-- ROLL (R105). -/
def execRoll (l : LinkId) (take : BitVec 16) (s : State) : Host.Outcome State Fault Refusal :=
  .next (takeRequest l (.roll l take) (rollRequest l take) s)

/-- CUT (R107). -/
def execCut (l : LinkId) (take : BitVec 16) (s : State) : Host.Outcome State Fault Refusal :=
  .next (takeRequest l (.cut l take) (cutRequest l take) s)

/-- CLOSE (R109). -/
def execClose (l : LinkId) (take : BitVec 16) (s : State) : Host.Outcome State Fault Refusal :=
  .next (takeRequest l (.close l take) (closeRequest l take) s)

/-- VOID (R110). -/
def execVoid (l : LinkId) (take : BitVec 16) (s : State) : Host.Outcome State Fault Refusal :=
  .next (takeRequest l (.void l take) (voidRequest l take) s)

/-- RATE (R111). -/
def execRate (l : LinkId) (take : BitVec 16) (rating : Byte) (s : State) : Host.Outcome State Fault Refusal :=
  .next (takeRequest l (.rate l take rating) (rateRequest take rating) s)

/-- MARK (R113). -/
def execMark (l : LinkId) (take : BitVec 16) (tickMode : Byte) (tick : BitVec 48) (code : Byte) (s : State) :
    Host.Outcome State Fault Refusal :=
  .next (takeRequest l (.mark l take tickMode tick code) (markRequest l take tickMode tick code) s)

/-- READ_TAKE (R121). -/
def execReadTake (l : LinkId) (take : BitVec 16) (s : State) : Host.Outcome State Fault Refusal :=
  .next (takeRequest l (.readTake l take) (readTakeRequest take) s)

/-- LIST_TAKES (R122). -/
def execListTakes (l : LinkId) (start : Byte) (s : State) : Host.Outcome State Fault Refusal :=
  .next (takeRequest l (.listTakes l start) (listTakesRequest start) s)

/-- COLLECT (R123). -/
def execCollect (l : LinkId) (take : BitVec 16) (s : State) : Host.Outcome State Fault Refusal :=
  .next (takeRequest l (.collect l take) (collectRequest l take) s)

end Sys2Proof.Machine
end

