-- ==== Sys2Proof/Machine/Slate.lean ====
section
/-! DEFINITION. Clap input, flash and slate panel (chapter 07): the contact, the lockout, accepted claps, the loose ring, the
flash burst, the slate take pointer, the panel and the hold. -/

namespace Sys2Proof.Machine

/-! ### Digits and hold (R139, R142) -/

/-- R139, R142: the label of tick `t` on the display source in force; an input lane's is that of its latest good word. -/
def State.displayLabel (s : State) (t : Nat) : Option ShownLabel :=
  match s.su.panel.display with
  | .house => some ⟨s.tu.house.labelAt t, s.tu.house.drop⟩
  | .output o => (s.output o).newestTimeline.map (fun tl => ⟨tl.labelAt t, tl.drop⟩)
  | .input i =>
    let v := s.input i
    if v.settings.kind = .timecode then (v.good.bind GoodArrival.fields).map (fun f => ⟨f.label, f.drop⟩) else none

/-- R139, R142: what the digits show now. -/
def State.digits (s : State) : Option ShownLabel :=
  match s.su.hold with
  | some h => h.label
  | none => s.displayLabel s.tick

/-- R142, R130 step 5: an accepted clap with the given stamp starts or restarts the hold. -/
def State.startHold (s : State) (stamp : Nat) : State :=
  if 0 < s.su.panel.hold then
    s.modSu (fun u => { u with hold := some ⟨s.displayLabel stamp, s.tick + s.su.panel.hold⟩ })
  else s

/-- R142: the hold reaches its end tick. -/
def State.holdDue (s : State) : Bool :=
  match s.su.hold with
  | some h => decide (h.endTick ≤ s.tick)
  | none => false

/-! ### Flash burst (R134 to R136) -/

/-- R135: the off-time of a duty code. -/
def FlashSettings.offTime (f : FlashSettings) : Nat :=
  match f.duty with
  | .d11 => f.onTime
  | .d12 => 2 * f.onTime
  | .d13 => 3 * f.onTime
  | .d21 => f.onTime / 2
  | .d31 => f.onTime / 3
  | .steady => 0

/-- R135: the pulses of a burst: one with STEADY. -/
def FlashSettings.pulses (f : FlashSettings) : Nat :=
  match f.duty with
  | .steady => 1
  | .d11 | .d12 | .d13 | .d21 | .d31 => f.count

/-- R135: the on phase of each pulse: count × on-time with STEADY. -/
def FlashSettings.pulseOn (f : FlashSettings) : Nat :=
  match f.duty with
  | .steady => f.count * f.onTime
  | .d11 | .d12 | .d13 | .d21 | .d31 => f.onTime

/-- R135: the length of a burst from its start to the end of its last pulse. -/
def FlashSettings.span (f : FlashSettings) : Nat := f.pulses * f.pulseOn + (f.pulses - 1) * f.offTime

/-- R135: a burst started at tick `t` on a copy of the settings. -/
def newBurst (f : FlashSettings) (t : Nat) : Burst := ⟨f, t, f.pulses - 1, true, t + f.pulseOn⟩

/-- R135: a burst's end tick. -/
def Burst.endTick (b : Burst) : Nat := b.start + b.settings.span

/-- R135: the last pulse is on: the next step is the burst's end. -/
def Burst.atLast (b : Burst) : Bool := b.lit && b.toBegin == 0

/-- R135: the move from an on phase to the off phase, or from an off phase to the next pulse. -/
def Burst.step (b : Burst) : Burst :=
  if b.lit then { b with lit := false, nextStep := b.nextStep + b.settings.offTime }
  else { b with lit := true, toBegin := b.toBegin - 1, nextStep := b.nextStep + b.settings.pulseOn }

/-- R130 step 4, R136: an accepted clap starts a burst where the flash is IDLE and HOUSE_FULL does not stand. -/
def State.startBurst (s : State) : State :=
  if s.su.burst = none ∧ !s.hc.full then s.modSu (fun u => { u with burst := some (newBurst u.flash s.tick) }) else s

/-- R135: the burst's next step is due and is not its end. -/
def State.burstStepDue (s : State) : Bool :=
  match s.su.burst with
  | some b => !b.atLast && decide (b.nextStep ≤ s.tick)
  | none => false

/-- R136: the burst's end is due. -/
def State.burstEndDue (s : State) : Bool :=
  match s.su.burst with
  | some b => b.atLast && decide (b.nextStep ≤ s.tick)
  | none => false

/-! ### Claps (R129 to R132) -/

/-- R129: the lockout accepts a stamp. -/
def SlateUnit.accepts (u : SlateUnit) (stamp : Nat) : Bool :=
  match u.lockout with
  | none => true
  | some r => decide (Config.lockoutTicks ≤ ((stamp : Int) - r).natAbs)

/-- R132: a loose clap appended to the ring; a ring of 8 first loses its oldest entry. -/
def SlateUnit.addLoose (u : SlateUnit) (c : LooseClap) : SlateUnit :=
  if 8 ≤ u.ring.length then { u with ring := u.ring.drop 1 ++ [c], overwritten := bumpByte u.overwritten }
  else { u with ring := u.ring ++ [c] }

/-- R91, R130 step 3: the clap indication set on every TIMECODE output lane. -/
def State.indicateClap (s : State) : State :=
  { s with outputs := s.outputs.map (fun v : OutLane => if v.isTimecode then { v with clapped := true } else v) }

/-- R130 steps 1 and 2: the clap handed to the Take Table, filed if loose, and its notice. -/
def State.fileClap (s : State) (stamp : Nat) (source : Origin) : State × ClapAnswer :=
  let done := s.clapOnTake stamp source
  match done.2 with
  | .first id => (done.1.post (.clap id stamp source false), .first id)
  | .second id => (done.1.post (.clap id stamp source true), .second id)
  | .loose =>
    let s := done.1.modSu (fun u => u.addLoose ⟨stamp, source⟩)
    (s.post (.looseClap stamp source s.su.ring.length s.su.overwritten), .loose)

/-- R129, R130: an accepted clap: the lockout reference, then steps 1 to 5. -/
def State.acceptClap (s : State) (stamp : Nat) (source : Origin) : State × ClapAnswer :=
  let done := (s.modSu (fun u => { u with lockout := some stamp })).fileClap stamp source
  (((done.1.indicateClap).startBurst).startHold stamp, done.2)

/-- R129: a clap presented to the lockout; `none` is an ignored clap. -/
def State.presentClap (s : State) (stamp : Nat) (source : Origin) : State × Option ClapAnswer :=
  if s.su.accepts stamp then
    let done := s.acceptClap stamp source
    (done.1, some done.2)
  else (s, none)

/-- R131: the response to CLAP: ignored flag, stamp, take id, and first 0, second 1 or loose 2. -/
def clapItems (stamp : Nat) (a : Option ClapAnswer) : List Byte :=
  [flagChar a.isNone] ++ tickChars stamp ++ presentOr 2 (bytesOf 2)
      (match a with
        | some (.first id) | some (.second id) => some id
        | some .loose | none => none)
    ++ presentOr 1 (fun c => [c])
      (match a with
        | some (.first _) => some 0#8
        | some (.second _) => some 1#8
        | some .loose => some 2#8
        | none => none)

/-- R131: CLAP. -/
def clapRequest (l : LinkId) (s : State) : State × Reply :=
  let done := s.presentClap s.tick (.link l)
  (done.1, .ok (clapItems s.tick done.2))

/-- R133: an entry of READ LOOSE. -/
def LooseClap.chars (c : LooseClap) : List Byte := tickChars c.stamp ++ [originChar c.source]

/-- R133: READ LOOSE. -/
def readLooseRequest (clear : Byte) (s : State) : State × Reply :=
  match switchOf clear with
  | none => (s, .no .badValue)
  | some c =>
    let items := [char s.su.ring.length] ++ s.su.ring.flatMap LooseClap.chars ++ [char s.su.overwritten]
    (if c then s.modSu (fun u => { u with ring := [], overwritten := 0 }) else s, .ok items)

/-! ### Settings (R134, R143) -/

/-- R134: SET FLASH's effect on the flash settings. -/
def State.acceptFlash (s : State) (f : FlashSettings) : State := s.modSu (fun u => { u with flash := f })

/-- R134: flash settings as characters. -/
def FlashSettings.chars (f : FlashSettings) : List Byte := [char f.count] ++ bytesOf 3 f.onTime ++ [f.duty.code]

/-- R134: SET FLASH. -/
def setFlashRequest (count : Byte) (onTime : BitVec 24) (duty : Byte) (s : State) : State × Reply :=
  match dutyCodeOf duty with
  | none => (s, .no .badValue)
  | some d =>
    let f : FlashSettings := ⟨max 1 count.toNat, clamp 72 72000 onTime.toNat, d⟩
    (s.acceptFlash f, .ok f.chars)

/-- R143: the panel settings stored; a hold ends where the display source or the hold time changes. -/
def State.acceptPanel (s : State) (p : PanelSettings) : State :=
  s.modSu fun u =>
    { u with panel := p, hold := if p.display = u.panel.display ∧ p.hold = u.panel.hold then u.hold else none }

/-- R143: what a pointer field asks for. -/
inductive PointerField where
  | auto
  | take (id : Nat)
  | keep
  deriving DecidableEq, Repr

/-- R183: SET SLATE's pointer codes. -/
def pointerFieldOf (code : Byte) (id : BitVec 16) : Option PointerField :=
  match code.toNat with
  | 0 => some .auto
  | 1 => some (.take id.toNat)
  | 2 => some .keep
  | _ => none

/-- R143 checks 2 and 3: the refusal a pointer field gives, if any. -/
def State.pointerRefusal (s : State) (f : PointerField) : Option Reply :=
  match f with
  | .auto | .keep => none
  | .take id =>
    match s.take? id with
    | none => some (.no .noTake)
    | some t => if t.state = .closed then some (.refused .wrongState (some .closed)) else none

/-- R143: the pointer set, KEEP leaving it. -/
def State.setPointer (s : State) (f : PointerField) : State :=
  match f with
  | .auto => s.modSu (fun u => { u with pointer := .auto })
  | .take id => s.modSu (fun u => { u with pointer := .take id })
  | .keep => s

/-- R143: the panel settings as characters. -/
def PanelSettings.chars (p : PanelSettings) : List Byte := p.display.chars ++ [char p.cycle, char p.duty] ++ bytesOf 3 p.hold

/-- R143: SET SLATE. -/
def setSlateRequest (pointer : Byte) (take : BitVec 16) (display lane cycle duty : Byte) (hold : BitVec 24) (s : State) :
    State × Reply :=
  match pointerFieldOf pointer take, displayOf display lane, cycleOf cycle, dutyPercentOf duty with
  | some f, some d, some c, some du =>
    match s.pointerRefusal f with
    | some r => (s, r)
    | none =>
      let s := (s.setPointer f).acceptPanel ⟨d, c, du, min hold.toNat Config.holdLimit⟩
      (s, .ok (s.su.pointer.chars ++ presentOr 2 (bytesOf 2) (s.slateTake.map Take.id) ++ s.su.panel.chars))
  | _, _, _, _ => (s, .no .badValue)

/-! ### The panel (R139 to R144) -/

/-- R141: what the lamp shows. -/
inductive Lamp where
  | blink | steady | dark
  deriving DecidableEq, Repr

/-- R141: lamp codes, in the rule's table order. -/
def Lamp.code : Lamp → Byte
  | .blink => 0#8
  | .steady => 1#8
  | .dark => 2#8

/-- R141: the lamp for the slate take's state. -/
def lampOf (t : Option Take) : Lamp :=
  match t.map Take.state with
  | some .armed => .blink
  | some .rolling => .steady
  | some .cut | some .closed | none => .dark

/-- R141: the blink rate code: the display source's where it gives digits, else the house's. -/
def State.blinkRate (s : State) : RateCode :=
  match s.su.panel.display with
  | .house => s.tu.house.rate
  | .output o => ((s.output o).newestTimeline.map Timeline.rate).getD s.tu.house.rate
  | .input i =>
    let set := (s.input i).settings
    if set.kind = .timecode then set.rate else s.tu.house.rate

/-- R141: the blink grid is in its lit part now. -/
def State.blinkLit (s : State) : Bool :=
  let k := s.tick / s.blinkRate.period
  decide (k % s.su.panel.cycle < s.su.panel.cycle * s.su.panel.duty / 100)

/-- R141: the lamp is lit now. -/
def State.lampLit (s : State) : Bool :=
  match lampOf s.slateTake with
  | .blink => s.blinkLit
  | .steady => true
  | .dark => false

/-- R139: a shown label as characters. -/
def ShownLabel.chars (l : ShownLabel) : List Byte := labelChars l.label l.drop

/-- R140: the text: scene, shot and take number. -/
def Take.text (t : Take) : List Byte := textChars 8 t.scene ++ textChars 4 t.shot ++ bytesOf 2 t.number

/-- R144: READ PANEL's items. The lamp has two characters, its code and whether it is lit now, the second also with STEADY and DARK
(DEDUCED, log entry 31). The flash is one item that may be absent: IDLE is its absence (DEDUCED, log entry 34). -/
def State.panelItems (s : State) : List Byte :=
  presentOr 5 ShownLabel.chars s.digits ++ s.su.panel.display.chars ++ presentOr 14 Take.text s.slateTake
    ++ [(lampOf s.slateTake).code, flagChar s.lampLit]
    ++ presentOr 13 (fun h : Hold => presentOr 5 ShownLabel.chars h.label ++ bytesOf 7 h.endTick) s.su.hold
    ++ s.su.pointer.chars ++ presentOr 3 Take.listEntry s.slateTake ++ [char s.su.panel.cycle, char s.su.panel.duty]
    ++ bytesOf 3 s.su.panel.hold
    ++ presentOr 9 (fun b : Burst => [char b.toBegin, flagChar (!b.lit)] ++ bytesOf 7 b.endTick) s.su.burst
    ++ [s.su.contact.code] ++ presentOr 6 tickChars s.su.lockout

/-! ### The contact (R128) -/

/-- R128: the debounce expiry is due. -/
def State.debounceDue (s : State) : Bool :=
  match s.su.contact with
  | .timing c => decide (c + Config.debounceTicks ≤ s.tick)
  | .opened | .held => false

/-- R128: the contact with its state replaced. -/
def State.setContact (s : State) (c : ContactState) : State := s.modSu (fun u => { u with contact := c })

/-! ### Meanings -/

/-- CLAP (R131). -/
def execClap (l : LinkId) (s : State) : Host.Outcome State Fault Refusal := .next (takeRequest l (.clap l) (clapRequest l) s)

/-- SET_SLATE (R143). -/
def execSetSlate (l : LinkId) (pointer : Byte) (take : BitVec 16) (display lane cycle duty : Byte) (hold : BitVec 24) (s : State) :
    Host.Outcome State Fault Refusal :=
  .next (takeRequest l (.setSlate l pointer take display lane cycle duty hold) (setSlateRequest pointer take display lane cycle duty hold) s)

/-- READ_PANEL (R144). -/
def execReadPanel (l : LinkId) (s : State) : Host.Outcome State Fault Refusal :=
  .next (takeRequest l (.readPanel l) (fun s => (s, .ok s.panelItems)) s)

/-- SET_FLASH (R134). -/
def execSetFlash (l : LinkId) (count : Byte) (onTime : BitVec 24) (duty : Byte) (s : State) : Host.Outcome State Fault Refusal :=
  .next (takeRequest l (.setFlash l count onTime duty) (setFlashRequest count onTime duty) s)

/-- READ_LOOSE (R133). -/
def execReadLoose (l : LinkId) (clear : Byte) (s : State) : Host.Outcome State Fault Refusal :=
  .next (takeRequest l (.readLoose l clear) (readLooseRequest clear) s)

/-- CONTACT_CLOSE (R128): from OPEN, the closure tick is held and the debounce starts. -/
def execContactClose (s : State) : Host.Outcome State Fault Refusal :=
  .next (if s.su.contact = .opened then s.setContact (.timing s.tick) else s)

/-- CONTACT_OPEN (R128): TIMING ends without a clap; HELD ends. -/
def execContactOpen (s : State) : Host.Outcome State Fault Refusal := .next (s.setContact .opened)

/-- DEBOUNCE_EXPIRY (R128): a clap stamped at the closure is presented to the lockout. -/
def execDebounceExpiry (s : State) : Host.Outcome State Fault Refusal :=
  .next (match s.su.contact with
    | .timing c => if s.debounceDue then ((s.setContact .held).presentClap c .contact).1 else s
    | .opened | .held => s)

/-- BURST_STEP (R135). -/
def execBurstStep (s : State) : Host.Outcome State Fault Refusal :=
  .next (if s.burstStepDue then s.modSu (fun u => { u with burst := u.burst.map Burst.step }) else s)

/-- BURST_END (R136). -/
def execBurstEnd (s : State) : Host.Outcome State Fault Refusal :=
  .next (if s.burstEndDue then s.modSu (fun u => { u with burst := none }) else s)

/-- HOLD_END (R142). -/
def execHoldEnd (s : State) : Host.Outcome State Fault Refusal :=
  .next (if s.holdDue then s.modSu (fun u => { u with hold := none }) else s)

end Sys2Proof.Machine
end

