-- ==== Sys2Proof/Machine/InputLanes.lean ====
section
/-! DEFINITION. Input Lanes (chapter 04): arrivals and their judgement, offsets, tracking, slips, statistics, run and clap
flags, going SILENT, SET INPUT, READ INPUT and the capture queue. -/

namespace Sys2Proof.Machine

/-! ### Offsets (R62, R63) -/

/-- R62 step 2: the signed count of frames from the expected frame to the labelled one, within half a label day. -/
def frameDistance (labelled expected day : Nat) : Int :=
  let d : Int := ((labelled : Int) - expected) % (day : Int)
  if (day / 2 : Nat) ≤ d then d - day else d

/-- R62: the offset of a good word with frame number `n` whose frame starts at `tFrame`. -/
def wordOffset (expected : Timeline) (n : Nat) (tFrame : Int) : Int :=
  (expected.subframeAt tFrame : Int) - frameDistance n (expected.frameAt tFrame) expected.day * expected.rate.period

/-- R63: the offset of a pulse edge: its phase on the lane-rate grid, in (−P/2, P/2]. -/
def edgeOffset (period : Nat) (tFrame : Int) : Int :=
  let phase : Int := tFrame % (period : Int)
  if (period : Int) < 2 * phase then phase - period else phase

/-! ### Statistics and capture (R71, R77) -/

/-- R71: an offset added to the current window. -/
def OpenWindow.add (w : OpenWindow) (off : Int) : OpenWindow :=
  if w.count = 0 then ⟨1, off, off, off⟩ else ⟨w.count + 1, w.sum + off, min w.low off, max w.high off⟩

/-- R71: a good word's offset in the lane's statistics; the W-th closes and publishes the window. -/
def InLane.addOffset (v : InLane) (off : Int) (arrival : Nat) : InLane :=
  let w := v.window.add off
  let v := { v with lastOffset := some off }
  if v.settings.window ≤ w.count then
    { v with window := emptyWindow, published := some ⟨w.low, w.high, w.sum / (v.settings.window : Int), v.settings.window, arrival⟩ }
  else { v with window := w }

/-- R77: an arrival offered to the capture queue, before it is judged for tracking. -/
def InLane.offerCapture (v : InLane) (c : Captured) : InLane :=
  match v.captureMode with
  | .off => v
  | .one =>
    if v.overrun then { v with captureMode := .off }
    else if v.captured.length < 4 then { v with captured := v.captured ++ [c], captureMode := .off }
    else { v with overrun := true, captureMode := .off }
  | .continuous =>
    if v.overrun then v
    else if v.captured.length < 4 then { v with captured := v.captured ++ [c] }
    else { v with overrun := true }

/-! ### Notices and state changes -/

/-- R59: a stamp handed to the Take Table or the Slate Unit. -/
def stampOf (tFrame : Int) : Nat := tFrame.toNat

/-- R75, R79: a change of tracking state reported: the LANE_STATE notice, and the lane enters every changed-lane set. -/
def State.reportLane (s : State) (i : LaneId) (prev now : Tracking) (cause : LaneCause) (lock : Option Int) : State :=
  (s.post (.laneState i prev now cause lock)).markChanged i

/-- R72: one of a lane's counters raised. -/
def State.count (s : State) (i : LaneId) (f : Counters → Counters) : State :=
  s.modInput i (fun v => { v with counters := f v.counters })

/-- R64: the first good word in SILENT. -/
def State.enterSeeking (s : State) (i : LaneId) : State :=
  (s.modInput i (fun v => { v with state := .seeking, seeking := 1 })).reportLane i .silent .seeking .goodWord none

/-- R65: the entry to TRACKING on a word or edge with offset `off`, steps 1 to 4. -/
def State.enterTracking (s : State) (i : LaneId) (off : Int) : State :=
  ((s.modInput i (fun v =>
    { v with state := .tracking, seeking := 4, missed := 0, errorRun := 0, lock := some off, rebaseline := false })).reportLane
      i .seeking .tracking .runComplete (some off)).autoJamTrigger i

/-- R67: TRACKING left for SEEKING with the seeking count given. -/
def State.leaveTracking (s : State) (i : LaneId) (seeking : Nat) (cause : LaneCause) : State :=
  (s.modInput i (fun v => { v with state := .seeking, seeking := seeking, missed := 0, errorRun := 0, lock := none })).reportLane
    i .tracking .seeking cause none

/-- R67, R68: a discontinuity in TRACKING: this word or edge starts the new run. -/
def State.discontinuity (s : State) (i : LaneId) : State :=
  (s.count i (fun c => { c with discontinuity := bump c.discontinuity })).leaveTracking i 1 .discontinuity

/-! ### Slip, run and clap (R70, R73, R74) -/

/-- R70: a SLIP, in the rule's order: counter, Timeline Unit, Take Table, notice, lock offset. -/
def State.slip (s : State) (i : LaneId) (off lock : Int) (stamp : Nat) : State :=
  let s := s.count i (fun c => { c with slip := bump c.slip })
  let s := s.autoJamTrigger i
  let s := if (s.input i).settings.role.isUnit then s.takeSlip i stamp else s
  let s := (s.post (.slip i stamp off lock (s.input i).counters.slip)).markChanged i
  s.modInput i (fun v => { v with lock := some off })

/-- R70: a word or edge that continues the lock, judged against the lock offset. -/
def State.judgeSlip (s : State) (i : LaneId) (off : Int) (stamp : Nat) : State :=
  let v := s.input i
  match v.lock with
  | some lock =>
    if v.rebaseline then s.modInput i (fun v => { v with lock := some off, rebaseline := false })
    else if (v.settings.tolerance : Nat) < (off - lock).natAbs then s.slip i off lock stamp
    else s
  | none => s.modInput i (fun v => { v with lock := some off, rebaseline := false })

/-- R73: the run flag of a word taken in TRACKING; `entry` is the word that enters it. -/
def State.takeRunFlag (s : State) (i : LaneId) (run entry : Bool) (stamp : Nat) : State :=
  let v := s.input i
  let s :=
    if v.settings.role.isUnit then
      if run && (entry || !v.runLevel) then s.runStart i stamp
      else if !run && v.runLevel then s.runStop i stamp
      else s
    else s
  s.modInput i (fun v => { v with runLevel := run })

/-- R74, R127: the stamp of a lane clap is its word's; R146: while HOUSE_FULL stands it is the maximum tick, whatever the lane's
lead (DEDUCED, log entry 26). -/
def State.clapStamp (s : State) (stamp : Nat) : Nat := if s.hc.full then Config.maxTick else stamp

/-- R74: the clap flag of a word taken in TRACKING; the entering word hands no clap. -/
def State.takeClapFlag (s : State) (i : LaneId) (clap entry : Bool) (stamp : Nat) : State :=
  let v := s.input i
  let s := if v.settings.role = .slate ∧ clap ∧ !v.clapLevel ∧ !entry then (s.presentClap (s.clapStamp stamp) (.lane i)).1 else s
  s.modInput i (fun v => { v with clapLevel := clap })

/-- R73, R74: the flags of a good word taken in TRACKING; a PULSE edge has none. -/
def State.takeFlags (s : State) (i : LaneId) (g : GoodArrival) (entry : Bool) : State :=
  match g.fields with
  | some f => (s.takeRunFlag i f.run entry (stampOf g.tFrame)).takeClapFlag i f.clap entry (stampOf g.tFrame)
  | none => s

/-! ### Arrivals -/

/-- R64, R66: a word's label is the latest good word's plus `j`. -/
def InLane.labelFollows (v : InLane) (n j : Nat) : Bool :=
  match v.good with
  | some g => decide (n = (g.frameNo + j) % framesPerDay v.settings.rate v.settings.drop)
  | none => false

/-- R68: an edge lies `j` periods after the latest edge, within q = floor(P/8). -/
def InLane.edgeFollows (v : InLane) (tFrame : Int) (j : Nat) : Bool :=
  match v.good with
  | some g =>
    let p := v.settings.rate.period
    let d := tFrame - g.tFrame
    decide ((j * p : Nat) - (p / 8 : Nat) ≤ d) && decide (d ≤ (j * p : Nat) + (p / 8 : Nat))
  | none => false

/-- R64 to R68, R70, R75: tracking on a good word or edge. `follows` says that it is one after the previous; `continues` that
it is in the slot the missed run expects. The arrival stands in the lane's record already. -/
def State.track (s : State) (i : LaneId) (g : GoodArrival) (off : Int) (follows continues : Bool) : State :=
  let v := s.input i
  match v.state with
  | .silent => s.enterSeeking i
  | .seeking =>
    let n := if v.seeking ≠ 0 ∧ follows then v.seeking + 1 else 1
    if 4 ≤ n then (s.enterTracking i off).takeFlags i g true else s.modInput i (fun v => { v with seeking := n })
  | .tracking =>
    if continues then
      ((s.modInput i (fun v => { v with missed := 0, errorRun := 0 })).judgeSlip i off (stampOf g.tFrame)).takeFlags i g false
    else s.discontinuity i

/-- R60, R71, R72, R75: a good word or edge: the lane's records and statistics, the edge to the House Clock, then tracking. -/
def State.goodArrival (s : State) (i : LaneId) (g : GoodArrival) (off : Int) (follows : Nat → Bool) : State :=
  let v := s.input i
  let s := s.modInput i (fun v => { (v.addOffset off g.arrival) with good := some g })
  let s := s.count i (fun c => { c with good := bump c.good })
  (s.laneEdge i).track i g off (follows 1) (follows (1 + v.missed))

/-- R64, R66, R67, R72: an error word. -/
def State.errorWord (s : State) (i : LaneId) : State :=
  let v := s.input i
  let s := s.count i (fun c => { c with error := bump c.error })
  match v.state with
  | .silent => s
  | .seeking => s.modInput i (fun v => { v with seeking := 0 })
  | .tracking =>
    if 3 ≤ v.errorRun + 1 then s.leaveTracking i 0 .errors
    else s.modInput i (fun v => { v with missed := v.missed + 1, errorRun := v.errorRun + 1 })

/-- R60, R77: an arrival offered to capture and recorded as the latest word. -/
def State.recordArrival (s : State) (i : LaneId) (c : Captured) : State :=
  s.modInput i (fun v => { (v.offerCapture c) with latest := some ⟨c.tag, c.arrival⟩ })

/-- R59, R60: a frame word completed on lane `i` at this tick. A run of bits not led by the sync pattern is no word (R181). -/
def State.wordArrives (s : State) (i : LaneId) (w : FrameWord) : State :=
  let v := s.input i
  if v.settings.kind = .timecode ∧ wordSync w = syncPattern then
    let tag := judgeWord v.settings w
    let s := s.recordArrival i ⟨s.tick, tag, wordBits w, wordCheck w⟩
    match tag with
    | .good =>
      let f := fieldsOfBits (wordBits w)
      let n := frameNumber v.settings.rate v.settings.drop f.label
      let tFrame : Int := (s.tick : Int) - v.settings.lead
      let off := (v.expected.map (fun tl => wordOffset tl n tFrame)).getD 0
      s.goodArrival i ⟨s.tick, tFrame, some f, n⟩ off (v.labelFollows n)
    | .badCheck | .wrongRate | .badLabel => s.errorWord i
  else s

/-- R59, R68: a leading pulse edge on lane `i` at this tick. -/
def State.edgeArrives (s : State) (i : LaneId) : State :=
  let v := s.input i
  if v.settings.kind = .pulse then
    let s := s.recordArrival i ⟨s.tick, .good, 0#54, 0#8⟩
    let tFrame : Int := (s.tick : Int) - v.settings.lead
    s.goodArrival i ⟨s.tick, tFrame, none, 0⟩ (edgeOffset v.settings.rate.period tFrame) (v.edgeFollows tFrame)
  else s

/-! ### Missing slots and silence (R66, R69) -/

/-- R66: the tick at which the next slot is missed: more than P/2 after its expected arrival. -/
def InLane.missingAt (v : InLane) : Option Nat :=
  match v.state with
  | .tracking => v.good.map (fun g => g.arrival + (1 + v.missed) * v.settings.rate.period + v.settings.rate.period / 2 + 1)
  | .silent | .seeking => none

/-- R66: the missing expiry of lane `i` is due; none is missed while HOUSE_FULL stands. -/
def State.missingDue (s : State) (i : LaneId) : Bool :=
  !s.hc.full && (match (s.input i).missingAt with
    | some t => decide (t ≤ s.tick)
    | none => false)

/-- R69: the tick at which a lane in SEEKING or TRACKING goes SILENT. -/
def InLane.silentAt (v : InLane) : Option Nat :=
  match v.state with
  | .silent => none
  | .seeking | .tracking => v.latest.map (fun w => w.arrival + v.settings.silence * v.settings.rate.period)

/-- R69: the silence expiry of lane `i` is due. -/
def State.silenceDue (s : State) (i : LaneId) : Bool :=
  match (s.input i).silentAt with
  | some t => decide (t ≤ s.tick)
  | none => false

/-- R73: the stamp of a DROPOUT handed at tick `now`. -/
def InLane.dropoutStamp (v : InLane) (now : Nat) : Nat :=
  match v.good with
  | some g => stampOf (min (g.tFrame + v.settings.rate.period) (now : Int))
  | none => now

/-- R69 step 1, R73, R75: a DROPOUT handed, where the run level is 1 under a CAMERA or SOUND role. -/
def State.dropout (s : State) (i : LaneId) : State :=
  let v := s.input i
  if v.runLevel && v.settings.role.isUnit then
    let stamp := v.dropoutStamp s.tick
    ((s.takeDropout i stamp).post (.dropout i stamp v.settings.role)).markChanged i
  else s

/-- R69: a lane goes SILENT. -/
def State.goSilent (s : State) (i : LaneId) (cause : LaneCause) : State :=
  let prev := (s.input i).state
  (((s.dropout i).modInput i (fun v =>
    { v with state := .silent, seeking := 0, missed := 0, errorRun := 0, lock := none, runLevel := false, clapLevel := false
    })).reportLane i prev .silent cause none).laneSilent i

/-! ### SET INPUT (R57, R58) -/

/-- R58: settings stored and the lane cleared; a lane that was not SILENT first goes SILENT under its old settings. -/
def State.applyInput (s : State) (i : LaneId) (set : InSettings) : State :=
  let s := if (s.input i).state = .silent then s else s.goSilent i .setInput
  s.modInput i (fun _ => clearedInput set (set.expectedUnder s.tu.house))

/-- R57 check 3: the request changes the kind, rate code, drop mode or role. -/
def InSettings.changesLane (old new : InSettings) : Bool :=
  old.kind != new.kind || old.rate != new.rate || old.drop != new.drop || old.role != new.role

/-- R57, R58: SET INPUT. -/
def setInputRequest (lane kind cls drop role : Byte) (lead : BitVec 16) (window silence : Byte) (tolerance : BitVec 16) (s : State) :
    State × Reply :=
  match laneOf lane, inSettingsOf kind cls drop role lead window silence tolerance with
  | some i, some set =>
    if (s.rollingTakeOf i).isSome ∧ (s.input i).settings.changesLane set then (s, .no .laneBusy)
    else (s.applyInput i set, .ok set.chars)
  | _, _ => (s, .no .badValue)

/-! ### READ INPUT (R80) -/

/-- R80: the latest good word: label, flags, user field, arrival tick and t_frame. On a PULSE lane the word's fields are sent as 0, with
no presence character of their own (DEDUCED, log entry 35). -/
def GoodArrival.chars (g : GoodArrival) : List Byte :=
  (match g.fields with
    | some f => labelChars f.label f.drop ++ [flagsChar [f.drop, f.run, f.clap]] ++ bytesOf 3 f.user.toNat
    | none => List.replicate 9 0#8) ++ tickChars g.arrival ++ signedChars 7 g.tFrame

/-- R80: the latest word: tag and arrival tick. -/
def LatestWord.chars (w : LatestWord) : List Byte := [w.tag.code] ++ tickChars w.arrival

/-- R80: the published window. -/
def PublishedWindow.chars (w : PublishedWindow) : List Byte :=
  offsetChars w.low ++ offsetChars w.high ++ offsetChars w.mean ++ [char w.size] ++ tickChars w.tick

/-- R80: the five counters. -/
def Counters.chars (c : Counters) : List Byte :=
  bytesOf 2 c.good ++ bytesOf 2 c.error ++ bytesOf 2 c.missing ++ bytesOf 2 c.discontinuity ++ bytesOf 2 c.slip

/-- R80: READ INPUT's items. -/
def InLane.items (v : InLane) : List Byte :=
  v.settings.chars ++ [v.state.code, char v.seeking] ++ bytesOf 2 v.missed ++ [char v.errorRun]
    ++ presentOr 22 GoodArrival.chars v.good ++ presentOr 7 LatestWord.chars v.latest ++ [flagsChar [v.runLevel, v.clapLevel]]
    ++ presentOr 5 offsetChars v.lock ++ [flagChar v.rebaseline] ++ presentOr 5 offsetChars v.lastOffset ++ [char v.window.count]
    ++ presentOr 22 PublishedWindow.chars v.published ++ v.counters.chars
    ++ [v.captureMode.code, char v.captured.length, flagChar v.overrun]

/-- R79, R80: READ INPUT removes the lane from the requesting link's changed-lane set. -/
def readInputRequest (l : LinkId) (lane : Byte) (s : State) : State × Reply :=
  match laneOf lane with
  | some i => (s.modLink l (fun p => p.seen i), .ok (s.input i).items)
  | none => (s, .no .badValue)

/-! ### Capture (R76, R78) -/

/-- R76: CAPTURE's effect on a lane. -/
def InLane.setCapture (v : InLane) (mode : CaptureMode) (flush : Bool) : InLane :=
  { v with overrun := false, captured := if flush then [] else v.captured, captureMode := mode }

/-- R76: CAPTURE; bit 0 of the flush character is the flag. -/
def captureRequest (lane mode flush : Byte) (s : State) : State × Reply :=
  match laneOf lane, captureModeOf mode with
  | some i, some m =>
    let s := s.modInput i (fun v => v.setCapture m (flush.getLsbD 0))
    (s, .ok [m.code, char (s.input i).captured.length])
  | _, _ => (s, .no .badValue)

/-- R78: PEEK removes up to `count` words from the head of the queue and returns them. -/
def peekRequest (lane count : Byte) (s : State) : State × Reply :=
  match laneOf lane with
  | none => (s, .no .badValue)
  | some i =>
    if count.toNat = 0 ∨ 4 < count.toNat then (s, .no .badValue)
    else
      let v := s.input i
      let words := v.captured.take count.toNat
      let left := v.captured.drop count.toNat
      (s.modInput i (fun v => { v with captured := left }),
        .ok ([char words.length] ++ words.flatMap Captured.chars ++ [char left.length, v.captureMode.code, flagChar v.overrun]))

/-! ### Meanings -/

/-- SET_INPUT (R57, R58). -/
def execSetInput (l : LinkId) (lane kind rateClass drop role : Byte) (lead : BitVec 16) (window silence : Byte)
    (tolerance : BitVec 16) (s : State) : Host.Outcome State Fault Refusal :=
  .next (takeRequest l (.setInput l lane kind rateClass drop role lead window silence tolerance)
    (setInputRequest lane kind rateClass drop role lead window silence tolerance) s)

/-- READ_INPUT (R80). -/
def execReadInput (l : LinkId) (lane : Byte) (s : State) : Host.Outcome State Fault Refusal :=
  .next (takeRequest l (.readInput l lane) (readInputRequest l lane) s)

/-- CAPTURE (R76). -/
def execCapture (l : LinkId) (lane mode flush : Byte) (s : State) : Host.Outcome State Fault Refusal :=
  .next (takeRequest l (.capture l lane mode flush) (captureRequest lane mode flush) s)

/-- PEEK (R78). -/
def execPeek (l : LinkId) (lane count : Byte) (s : State) : Host.Outcome State Fault Refusal :=
  .next (takeRequest l (.peek l lane count) (peekRequest lane count) s)

/-- WORD_ARRIVAL (R60). -/
def execWordArrival (i : LaneId) (w : FrameWord) (s : State) : Host.Outcome State Fault Refusal := .next (s.wordArrives i w)

/-- PULSE_EDGE (R68). -/
def execPulseEdge (i : LaneId) (s : State) : Host.Outcome State Fault Refusal := .next (s.edgeArrives i)

/-- MISSING_EXPIRY (R66, R72). -/
def execMissingExpiry (i : LaneId) (s : State) : Host.Outcome State Fault Refusal :=
  .next (if s.missingDue i then
      (s.modInput i (fun v => { v with missed := v.missed + 1 })).count i (fun c => { c with missing := bump c.missing })
    else s)

/-- SILENCE_EXPIRY (R69). -/
def execSilenceExpiry (i : LaneId) (s : State) : Host.Outcome State Fault Refusal :=
  .next (if s.silenceDue i then s.goSilent i .silence else s)

end Sys2Proof.Machine
end

