-- ==== Sys2Proof/Machine/Convert.lean ====
section
/-! DEFINITION. CONVERT (chapter 01, R18 to R23): the resolution of its sources and its five directions. -/

namespace Sys2Proof.Machine

/-! ### Sources (R19, R20) -/

/-- R19: what a source serves: a timeline for the label directions, a stream for the index directions. -/
structure Resolved where
  timeline : Option Timeline
  stream : Option Stream
  deriving DecidableEq, Repr

/-- R17, R19: a timeline serves both: its frame stream has its phase origin at its origin tick. -/
def Resolved.ofTimeline (tl : Timeline) : Resolved := ⟨some tl, some (frameStream tl.rate tl.origin)⟩

/-- R19: a stream serves the index directions only. -/
def Resolved.ofStream (st : Stream) : Resolved := ⟨none, some st⟩

/-- R19: a lane of kind OFF serves no direction. -/
def Resolved.nothing : Resolved := ⟨none, none⟩

/-- R19: an output lane's newest accepted configuration as a source. -/
def OutSetup.resolved (su : OutSetup) : Resolved :=
  match su.config with
  | .off => .nothing
  | .pulse rate .. => .ofStream (pulseGrid rate)
  | .timecode .. => (su.timeline.map Resolved.ofTimeline).getD .nothing
  | .wordclock sr p => .ofStream (audioStream sr p su.phase)

/-- R19: an output lane as a source. -/
def OutLane.resolved (o : OutLane) : Resolved := (o.newest.map OutSetup.resolved).getD .nothing

/-- R19: an input lane as a source. -/
def InLane.resolved (v : InLane) : Resolved :=
  match v.settings.kind with
  | .off => .nothing
  | .timecode => (v.expected.map Resolved.ofTimeline).getD .nothing
  | .pulse => .ofStream (pulseGrid (.code v.settings.rate))

/-- R20, 11.5: an explicit frame stream: rate class, origin tick, origin label with its drop flag. -/
def explicitFrame (cs : List Byte) : Option Resolved :=
  (timelineOf (charAt cs 0) (labelAtPos cs 7) (numberAt cs 1 6)).map Resolved.ofTimeline

/-- R20, 11.5: an explicit audio stream: sample rate, pull, origin tick. -/
def explicitAudio (cs : List Byte) : Option Resolved :=
  match sampleRateOf (charAt cs 0), pullOf (charAt cs 1) with
  | some sr, some p => some (.ofStream (audioStream sr p (numberAt cs 2 6)))
  | _, _ => none

/-- R19, R20: a source field resolved now; none is BAD_VALUE. Characters that its kind leaves unused are not judged (DESIGN CHOICE, log
entry 36). -/
def State.resolve (s : State) (f : SourceField) : Option Resolved :=
  match f.kind.toNat with
  | 0 => some (.ofTimeline s.tu.house)
  | 1 => (laneOf (charAt f.rest 0)).map (fun o => (s.output o).resolved)
  | 2 => (laneOf (charAt f.rest 0)).map (fun i => (s.input i).resolved)
  | 3 => explicitFrame f.rest
  | 4 => explicitAudio f.rest
  | _ => none

/-- R19: the timeline of a source that serves the label directions. -/
def State.resolveTimeline (s : State) (f : SourceField) : Option Timeline := (s.resolve f).bind Resolved.timeline

/-- R19: the stream of a source that serves the index directions. -/
def State.resolveStream (s : State) (f : SourceField) : Option Stream := (s.resolve f).bind Resolved.stream

/-! ### Directions (R18, R21, R22) -/

/-- R18: the five directions. -/
inductive Direction where
  | tickToLabel | labelToTick | tickToIndex | indexToTick | labelToLabel
  deriving DecidableEq, Repr

/-- R18, R183: direction codes, in the rule's table order. -/
def directionOf (b : Byte) : Option Direction :=
  match b.toNat with
  | 0 => some .tickToLabel
  | 1 => some .labelToTick
  | 2 => some .tickToIndex
  | 3 => some .indexToTick
  | 4 => some .labelToLabel
  | _ => none

/-- 11.5: the label in the first 5 of the 6 value characters, valid for source A's rate code and drop mode (R21 check 3). Its
drop flag is not compared with source A's drop mode (log entry 21), and the sixth character is not judged (DESIGN CHOICE, log entry 36). -/
def valueLabel (tl : Timeline) (value : BitVec 48) : Option Label :=
  match labelOf (labelAtPos (bytesOf 6 value.toNat) 0) with
  | some (l, _) => if labelValid tl.rate tl.drop l then some l else none
  | none => none

/-- R18: the label, drop flag and subframe of a tick on a timeline. The drop flag is bit 0 of the label's flags character and has
no character of its own (DEDUCED, log entry 27). -/
def Timeline.labelItems (tl : Timeline) (t : Int) : List Byte := labelChars (tl.labelAt t) tl.drop ++ bytesOf 2 (tl.subframeAt t)

/-- R18: tick→label: label, drop flag, subframe, frame number. -/
def convertTickToLabel (tl : Timeline) (t : Nat) : Reply := .ok (tl.labelItems t ++ bytesOf 3 (tl.frameAt t))

/-- R13, R18, R21: label→tick: tick and frame number, or RANGE. -/
def convertLabelToTick (tl : Timeline) (l : Label) : Reply :=
  if Config.maxTick < tl.tickOf l then .no .range else .ok (tickChars (tl.tickOf l) ++ bytesOf 3 (frameNumber tl.rate tl.drop l))

/-- R15, R18, R21: tick→index: index and start tick of the unit, or RANGE for a tick before the phase origin. -/
def convertTickToIndex (st : Stream) (t : Nat) : Reply :=
  if t < st.origin then .no .range else .ok (bytesOf 6 (st.indexAt t) ++ tickChars (st.startOf (st.indexAt t)))

/-- R16, R18, R21: index→tick: the start tick of the unit, or RANGE. -/
def convertIndexToTick (st : Stream) (k : Nat) : Reply :=
  if Config.maxTick < st.startOf k then .no .range else .ok (tickChars (st.startOf k))

/-- R18, R22: label→label: the label on B with its drop flag and subframe, then the intermediate tick, or RANGE. -/
def convertLabelToLabel (a b : Timeline) (l : Label) : Reply :=
  if Config.maxTick < a.tickOf l then .no .range else .ok (b.labelItems (a.tickOf l) ++ tickChars (a.tickOf l))

/-- R21: CONVERT's reply, its checks in order. -/
def State.convert (s : State) (direction : Byte) (a : SourceField) (value : BitVec 48) (b : Option SourceField) : Reply :=
  match directionOf direction with
  | none => .no .badValue
  | some .tickToLabel =>
    match s.resolveTimeline a with
    | some tl => convertTickToLabel tl value.toNat
    | none => .no .badValue
  | some .labelToTick =>
    match s.resolveTimeline a with
    | some tl =>
      match valueLabel tl value with
      | some l => convertLabelToTick tl l
      | none => .no .badValue
    | none => .no .badValue
  | some .tickToIndex =>
    match s.resolveStream a with
    | some st => convertTickToIndex st value.toNat
    | none => .no .badValue
  | some .indexToTick =>
    match s.resolveStream a with
    | some st => convertIndexToTick st value.toNat
    | none => .no .badValue
  | some .labelToLabel =>
    match s.resolveTimeline a, b.bind s.resolveTimeline with
    | some tla, some tlb =>
      match valueLabel tla value with
      | some l => convertLabelToLabel tla tlb l
      | none => .no .badValue
    | _, _ => .no .badValue

/-- R23: CONVERT writes no state. -/
def convertRequest (direction : Byte) (a : SourceField) (value : BitVec 48) (b : Option SourceField) (s : State) : State × Reply :=
  (s, s.convert direction a value b)

/-! ### Meaning -/

/-- CONVERT (R21). -/
def execConvert (l : LinkId) (direction : Byte) (sourceA : SourceField) (value : BitVec 48) (sourceB : Option SourceField)
    (s : State) : Host.Outcome State Fault Refusal :=
  .next (takeRequest l (.convert l direction sourceA value sourceB) (convertRequest direction sourceA value sourceB) s)

end Sys2Proof.Machine
end

