-- ==== Sys2Proof/Machine/Links.lean ====
section
/-! DEFINITION. Control Links and Notices (chapters 08 and 09): the receive path, the frame assembler, the feeder, the pause
input, batching, SET LINK, SET NOTICES and STATUS. -/

namespace Sys2Proof.Machine

/-! ### The receive path (R150 to R152) -/

/-- R151: the receive FIFO with new contents, and the hold output its count gives. -/
def LinkPort.withRx (p : LinkPort) (rx : List RxChar) : LinkPort := { p with rx := rx, hold := holdAfter p.hold rx.length }

/-- R150: the tag of a character offered to the receive FIFO. -/
def rxTagOf (overrun framing : Bool) : RxTag := if overrun then .overrun else if framing then .framing else .clean

/-- R150: a received character offered to the receive FIFO; a link in break receives none (R152). -/
def LinkPort.receive (p : LinkPort) (data : Byte) (lead framing : Bool) : LinkPort :=
  if p.inBreak then p
  else if p.rx.length < Config.fifoDepth then
    { p.withRx (p.rx ++ [⟨data, lead, rxTagOf p.overrunMark framing⟩]) with overrunMark := false }
  else { p with overrunMark := true }

/-- R156: the assembler stands mid-frame, and the frame's kind code. -/
def Assembler.midFrame : Assembler → Option Byte
  | .length k => some k
  | .body k _ _ => some k
  | .check k _ => some k
  | .idle => none
  | .done _ => none

/-- R152: a break detected: the receive FIFO emptied, the hold released, the mark cleared and a frame in assembly discarded. -/
def LinkPort.enterBreak (p : LinkPort) : LinkPort :=
  if p.inBreak then p
  else
    { p with
      inBreak := true
      rx := []
      hold := false
      overrunMark := false
      assembler := if p.assembler.midFrame.isSome then .idle else p.assembler }

/-! ### The assembler (R154 to R157) -/

/-- R153, R155: the sum of kind code, length, body and check is 0 modulo 256. -/
def sumHolds (kind : Byte) (body : List Byte) (check : Byte) : Bool := body.foldl (· + ·) (kind + char body.length) + check == 0#8

/-- R155: a complete frame judged at its check character. -/
def judgeCheck (kind : Byte) (body : List Byte) (check : Byte) : HeldOutcome :=
  if sumHolds kind body check then judgedFrame kind body else .refusal kind .badCheck

/-- R154: an untagged character taken. -/
def Assembler.takeClean (a : Assembler) (c : RxChar) : Assembler :=
  match a with
  | .done h => .done h
  | .idle => if c.lead then .length c.data else .idle
  | .length k =>
    if c.lead then .length c.data
    else if 60 < c.data.toNat then .done (.refusal k .badLength)
    else if c.data.toNat = 0 then .check k []
    else .body k c.data.toNat []
  | .body k n got =>
    if c.lead then .length c.data
    else if n ≤ got.length + 1 then .check k (got ++ [c.data])
    else .body k n (got ++ [c.data])
  | .check k got => if c.lead then .length c.data else .done (judgeCheck k got c.data)

/-- R157: a character tagged FRAMING or OVERRUN taken. -/
def Assembler.takeTagged (a : Assembler) (c : RxChar) : Assembler :=
  match a with
  | .done h => .done h
  | .idle => if c.lead then .done (.refusal c.data .lineError) else .idle
  | .length k => .done (.refusal k .lineError)
  | .body k _ _ => .done (.refusal k .lineError)
  | .check k _ => .done (.refusal k .lineError)

/-- R154, R157: a character taken, by its tag. -/
def Assembler.takeChar (a : Assembler) (c : RxChar) : Assembler :=
  match c.tag with
  | .clean => a.takeClean c
  | .framing | .overrun => a.takeTagged c

/-- R154: in DONE the assembler takes no character. -/
def Assembler.isDone : Assembler → Bool
  | .done _ => true
  | .idle | .length _ | .body .. | .check .. => false

/-- R154: the assembler takes the head character of the receive FIFO. -/
def LinkPort.takeChar (p : LinkPort) : LinkPort :=
  match p.rx with
  | [] => p
  | c :: rest => if p.assembler.isDone then p else { p.withRx rest with assembler := p.assembler.takeChar c }

/-- R156: the silence timer falls due: the frame is refused INCOMPLETE, provided the receive FIFO is empty mid-frame. -/
def LinkPort.silenceTimer (p : LinkPort) : LinkPort :=
  match p.assembler.midFrame with
  | some k => if p.rx.isEmpty then { p with assembler := .done (.refusal k .incomplete) } else p
  | none => p

/-- R158: a refusal held in DONE becomes the waiting response where the link is free to take it. -/
def LinkPort.takeRefusal (p : LinkPort) : LinkPort :=
  match p.assembler with
  | .done (.refusal k code) => if p.free then { p with assembler := .idle }.answer k (.no code) else p
  | .done (.request _ _) | .idle | .length _ | .body .. | .check .. => p

/-! ### The transmit path (R160, R161, R170) -/

/-- R160, R161: a character enters the transmit FIFO; an idle transmitter that is not paused starts it. -/
def LinkPort.pushTx (p : LinkPort) (c : TxChar) : LinkPort := { p with tx := p.tx ++ [c], sending := p.sending || !p.pause }

/-- R160: the transmit FIFO has room. -/
def LinkPort.txRoom (p : LinkPort) : Bool := decide (p.tx.length < Config.fifoDepth)

/-- R169: the head notice leaves the queue; the release goes off when it was the last. -/
def LinkPort.noticeLeaves (p : LinkPort) : LinkPort :=
  let queue := p.queue.drop 1
  { p with
    queue := queue
    release := p.release && !queue.isEmpty
    batchExpiry := if queue.isEmpty then none else p.batchExpiry }

/-- R160: the next character of the waiting response enters; the last one leaves the feeder free and no response waiting. -/
def LinkPort.feedResponse (p : LinkPort) (w : WaitingResponse) : LinkPort :=
  match w.frame.drop w.fed with
  | [] => { p with response := none, feeder := .free }
  | c :: rest =>
    if p.txRoom then
      if rest.isEmpty then { p.pushTx c with response := none, feeder := .free }
      else { p.pushTx c with response := some { w with fed := w.fed + 1 }, feeder := .response }
    else { p with feeder := .response }

/-- R160, R170: the next character of a notice enters; the first one takes the notice off the queue. -/
def LinkPort.feedNotice (p : LinkPort) (entered : Bool) (rest : List TxChar) : LinkPort :=
  match rest with
  | [] => { p with feeder := .free }
  | c :: rest =>
    if p.txRoom then
      let p := if entered then p else p.noticeLeaves
      { p.pushTx c with feeder := if rest.isEmpty then .free else .notice true rest }
    else p

/-- R160: the feeder moves the next character of its frame, choosing the waiting response when it is free. -/
def LinkPort.feed (p : LinkPort) : LinkPort :=
  match p.feeder, p.response with
  | .notice entered rest, _ => p.feedNotice entered rest
  | .free, some w | .response, some w => p.feedResponse w
  | .free, none | .response, none => p

/-- R169, R170, R179: the head notice is ready and the free feeder may take it. -/
def LinkPort.noticeReady (p : LinkPort) : Bool :=
  p.feeder == .free && p.response.isNone && p.release && p.restartAfter.isNone && !p.queue.isEmpty

/-- R170: the free feeder takes the head notice, builds its frame and moves its first character where there is room. -/
def LinkPort.takeNotice (p : LinkPort) : LinkPort :=
  match p.queue with
  | q :: _ => if p.noticeReady then { p with feeder := .notice false q.frame }.feedNotice false q.frame else p
  | [] => p

/-- R161: the pause input asserted: no new character is started. -/
def LinkPort.assertPause (p : LinkPort) : LinkPort := { p with pause := true }

/-- R161: the pause input released: sending resumes with the head character. -/
def LinkPort.releasePause (p : LinkPort) : LinkPort := { p with pause := false, sending := p.sending || !p.tx.isEmpty }

/-- R161: the character being sent has been sent; the next is started where pause is released. -/
def LinkPort.finishChar (p : LinkPort) : LinkPort :=
  { p with tx := p.tx.drop 1, sending := !p.pause && !(p.tx.drop 1).isEmpty }

/-- R149: one more character sent toward the end of the response that a pending divisor waits for. -/
def LinkPort.countDivisor (p : LinkPort) : LinkPort :=
  match p.pendingDivisor with
  | some d =>
    if d.after ≤ 1 then { p with divisor := d.value, pendingDivisor := none }
    else { p with pendingDivisor := some { d with after := d.after - 1 } }
  | none => p

/-- R179: one more character sent toward the end of an accepted RESTART's response. -/
def LinkPort.countRestart (p : LinkPort) : LinkPort := { p with restartAfter := p.restartAfter.map (· - 1) }

/-- R149, R161, R179: the stop bit of the character being sent. -/
def LinkPort.charSent (p : LinkPort) : LinkPort := p.finishChar.countDivisor.countRestart

/-- R161: a character is being sent. -/
def LinkPort.isSending (p : LinkPort) : Bool := p.sending && !p.tx.isEmpty

/-! ### SET LINK (R149) -/

/-- R149: a divisor clamped to 1 to 4,095. -/
def clampDivisor (d : Nat) : Nat := clamp 1 4095 d

/-- R148, R149: the bit rate of a divisor in three characters; a free value where 691,200/D is not whole (log entry 20). -/
def bitRateChars (d : Nat) : List Byte :=
  if Config.linkClock % d = 0 then bytesOf 3 (Config.linkClock / d) else bytesOf 3 (Config.brokenBitRate d).toNat

/-- R149: a divisor given from another link is in force at once. -/
def LinkPort.installDivisor (p : LinkPort) (d : Nat) : LinkPort := { p with divisor := d, pendingDivisor := none }

/-- R149: SET LINK on link `l`. -/
def setLinkRequest (l : LinkId) (link : Byte) (divisor : BitVec 16) (s : State) : State × Reply :=
  match linkOf link with
  | none => (s, .no .badValue)
  | some k =>
    let d := clampDivisor divisor.toNat
    let body := [link] ++ bytesOf 2 d ++ bitRateChars d
    if k = l then (s, .accepted body (.divisor d)) else (s.modLink k (fun p => p.installDivisor d), .ok body)

/-! ### SET NOTICES (R171, R172) -/

/-- R172 step 2: the queued notices whose class a subscription holds. -/
def keepSubscribed (classes : BitVec 5) (queue : List QueuedNotice) : List QueuedNotice :=
  queue.filter (fun q => classes.getLsbD q.notice.body.noticeClass.bit)

/-- R172 step 2: the feeder after classes are dropped: a notice it has chosen that has not begun to enter is still queued, and
goes with its class. -/
def LinkPort.feederAfterDrop (p : LinkPort) (classes : BitVec 5) : Feeder :=
  match p.feeder, p.queue with
  | .notice false rest, q :: _ => if classes.getLsbD q.notice.body.noticeClass.bit then .notice false rest else .free
  | f, _ => f

/-- R172 steps 3 and 4: the release and the batch expiry under the settings in force. -/
def LinkPort.reassess (p : LinkPort) (now : Nat) : LinkPort :=
  match p.queue with
  | [] => { p with release := false, batchExpiry := none }
  | q :: _ =>
    if p.release then p
    else
      let due := q.entered + p.notices.timeout * Config.ticksPerMs
      if p.notices.level ≤ p.queue.length ∨ due ≤ now then { p with release := true, batchExpiry := none }
      else { p with batchExpiry := some due }

/-- R172: an accepted SET NOTICES. -/
def LinkPort.applyNotices (p : LinkPort) (set : NoticeSettings) (now : Nat) : LinkPort :=
  { p with notices := set, queue := keepSubscribed set.classes p.queue, feeder := p.feederAfterDrop set.classes }.reassess now

/-- R171: notice settings checked and clamped. -/
def noticeSettingsOf (classes level timeout : Byte) : Option NoticeSettings :=
  if 31 < classes.toNat ∨ timeout.toNat = 0 then none else some ⟨classes.setWidth 5, clamp 1 32 level.toNat, timeout.toNat⟩

/-- R171: the SET NOTICES response: settings as stored, queue count, GAP flag. -/
def LinkPort.noticeItems (p : LinkPort) : List Byte :=
  [p.notices.classes.setWidth 8, char p.notices.level, char p.notices.timeout, char p.queue.length, flagChar p.gap]

/-- R171, R172: SET NOTICES on link `l`. -/
def setNoticesRequest (l : LinkId) (classes level timeout : Byte) (s : State) : State × Reply :=
  match noticeSettingsOf classes level timeout with
  | none => (s, .no .badValue)
  | some set =>
    let s := s.modLink l (fun p => p.applyNotices set s.tick)
    (s, .ok (s.link l).noticeItems)

/-! ### STATUS (R162) and the batch expiry (R169) -/

/-- R162: STATUS's items for link `l`. -/
def State.statusItems (s : State) (l : LinkId) : List Byte :=
  tickChars s.tick ++ [flagChar s.hc.full, s.hc.state.code, s.hc.flags, char s.tt.tableCount, char s.tt.openCount,
    char s.tt.rollingCount, flagChar s.tu.change.isSome, s.store.state.code, s.store.flags, flagChar (s.link l).gap,
    (s.link l).changed]

/-- R162: STATUS on link `l`. -/
def statusRequest (l : LinkId) (s : State) : State × Reply := (s.modLink l LinkPort.afterStatus, .ok (s.statusItems l))

/-- R169: the batch expiry is due. -/
def LinkPort.batchDue (p : LinkPort) (now : Nat) : Bool :=
  match p.batchExpiry with
  | some t => decide (t ≤ now)
  | none => false

/-- R169: the batch expiry turns the release on. -/
def LinkPort.expireBatch (p : LinkPort) (now : Nat) : LinkPort :=
  if p.batchDue now then { p with release := true, batchExpiry := none } else p

/-! ### Meanings -/

/-- STATUS (R162). -/
def execStatus (l : LinkId) (s : State) : Host.Outcome State Fault Refusal := .next (takeRequest l (.status l) (statusRequest l) s)

/-- SET_LINK (R149). -/
def execSetLink (l : LinkId) (link : Byte) (divisor : BitVec 16) (s : State) : Host.Outcome State Fault Refusal :=
  .next (takeRequest l (.setLink l link divisor) (setLinkRequest l link divisor) s)

/-- SET_NOTICES (R171, R172). -/
def execSetNotices (l : LinkId) (classes level timeout : Byte) (s : State) : Host.Outcome State Fault Refusal :=
  .next (takeRequest l (.setNotices l classes level timeout) (setNoticesRequest l classes level timeout) s)

/-- CHARACTER_RECEIVED (R150). -/
def execCharacterReceived (l : LinkId) (data : Byte) (lead framing : Bool) (s : State) : Host.Outcome State Fault Refusal :=
  .next (s.modLink l (fun p => p.receive data lead framing))

/-- BREAK (R152). -/
def execLineBreak (l : LinkId) (s : State) : Host.Outcome State Fault Refusal := .next (s.modLink l LinkPort.enterBreak)

/-- BREAK_END (R152): the receive line goes high. -/
def execBreakEnd (l : LinkId) (s : State) : Host.Outcome State Fault Refusal :=
  .next (s.modLink l (fun p => { p with inBreak := false }))

/-- CHARACTER_TAKEN (R154, R155, R157). -/
def execCharacterTaken (l : LinkId) (s : State) : Host.Outcome State Fault Refusal := .next (s.modLink l LinkPort.takeChar)

/-- SILENCE_TIMER_EXPIRY (R156). -/
def execSilenceTimerExpiry (l : LinkId) (s : State) : Host.Outcome State Fault Refusal := .next (s.modLink l LinkPort.silenceTimer)

/-- ASSEMBLER_REFUSAL (R158). -/
def execAssemblerRefusal (l : LinkId) (s : State) : Host.Outcome State Fault Refusal := .next (s.modLink l LinkPort.takeRefusal)

/-- FEEDER_CHARACTER (R160). -/
def execFeederCharacter (l : LinkId) (s : State) : Host.Outcome State Fault Refusal := .next (s.modLink l LinkPort.feed)

/-- NOTICE_FED (R170). -/
def execNoticeFed (l : LinkId) (s : State) : Host.Outcome State Fault Refusal := .next (s.modLink l LinkPort.takeNotice)

/-- PAUSE_ASSERTED (R161). -/
def execPauseAsserted (l : LinkId) (s : State) : Host.Outcome State Fault Refusal := .next (s.modLink l LinkPort.assertPause)

/-- PAUSE_RELEASED (R161). -/
def execPauseReleased (l : LinkId) (s : State) : Host.Outcome State Fault Refusal := .next (s.modLink l LinkPort.releasePause)

/-- BATCH_EXPIRY (R169). -/
def execBatchExpiry (l : LinkId) (s : State) : Host.Outcome State Fault Refusal :=
  .next (s.modLink l (fun p => p.expireBatch s.tick))

end Sys2Proof.Machine
end

