-- ==== Sys2Proof/Machine/Store.lean ====
section
/-! DEFINITION. Settings Store and Start-up (chapter 10): SAVE, the write's end, start-up, RESTART with the character that
brings it about, and DEFAULTS. -/

namespace Sys2Proof.Machine

/-! ### SAVE (R174 to R177) -/

/-- R174: an output lane's configuration as SAVE takes it: the newest accepted one. -/
def OutLane.savedConfig (o : OutLane) : OutConfig := (o.newest.map OutSetup.config).getD .off

/-- R174: every setting as it stands. -/
def State.snapshot (s : State) : Settings where
  houseRate := s.tu.house.rate
  houseDrop := s.tu.house.drop
  autoJam := s.tu.autoJam
  refSource := s.hc.source
  refRate := s.hc.refRate
  loop := s.hc.loop
  trim := s.hc.trim
  inputs := s.inputs.map (fun v => v.settings)
  outputs := s.outputs.map OutLane.savedConfig
  divisors := s.links.map LinkPort.newestDivisor
  notices := s.links.map (fun p => p.notices)
  flash := s.su.flash
  panel := s.su.panel

/-- R176: a write begins now for link `l`. -/
def State.beginWrite (s : State) (l : LinkId) : State :=
  s.modStore (fun t => { t with state := .incomplete, write := some ⟨s.snapshot, s.tick, s.tick + Config.writeTicks, l⟩ })

/-- R176: SAVE on link `l`. -/
def saveRequest (l : LinkId) (s : State) : State × Reply :=
  if s.store.write.isSome then (s, .no .busy)
  else if Config.maxTick < s.tick + Config.writeTicks then (s, .no .busy)
  else (s.beginWrite l, .ok (StoreState.incomplete.code :: tickChars s.tick ++ tickChars (s.tick + Config.writeTicks)))

/-- R177: the write's end tick has been reached. -/
def State.writeDue (s : State) : Bool :=
  match s.store.write with
  | some w => decide (w.endTick ≤ s.tick)
  | none => false

/-- R177: a write ends: its snapshot is the image. -/
def SettingsStore.endWrite (t : SettingsStore) (w : StoreWrite) : SettingsStore :=
  { t with image := some w.snapshot, state := .good, write := none, fault := false }

/-- R177: the write ends, and SAVE_DONE is handed over. -/
def State.endWrite (s : State) : State :=
  match s.store.write with
  | some w => (s.modStore (fun t => t.endWrite w)).post (.saveDone w.taken w.link .good s.store.fault)
  | none => s

/-! ### Start-up (R178) -/

/-- R178: the settings a start-up loads, by the store state it finds. -/
def SettingsStore.startSettings (t : SettingsStore) : Settings :=
  match t.state with
  | .good => t.image.getD factorySettings
  | .incomplete | .blank => factorySettings

/-- R175, R178: the store after a start-up: a write in flight is cut. -/
def SettingsStore.afterStart (t : SettingsStore) : SettingsStore := { t with write := none, fault := t.state == .incomplete }

/-- R41, R56: the start-up house timeline. -/
def Settings.house (set : Settings) : Timeline := ⟨set.houseRate, set.houseDrop, 0, ⟨0, 0, 0, 0⟩⟩

/-- R27, R40: the reference period a start-up finds. -/
def Settings.refPeriod (set : Settings) : Nat :=
  match set.refSource with
  | .off => 0
  | .refInput => set.refRate.period
  | .lane i => (set.inputs.get i).rate.period

/-- R40: the House Clock at start-up. -/
def Settings.startClock (set : Settings) : HouseClock where
  tick := 0
  full := false
  fine := 0
  trim := set.trim
  source := set.refSource
  refRate := set.refRate
  loop := set.loop
  state := if set.refSource = .off then .off else .acquire
  limit := false
  stale := false
  lastCorrection := none
  windowStart := none
  edgeCount := 0
  lastEdge := none
  nextExpected := if set.refSource = .off then none else some set.refPeriod
  inTolerance := 0
  holdoverSince := none

/-- R147: the contact at start-up: HELD if it is closed. -/
def ContactState.atStart : ContactState → ContactState
  | .opened => .opened
  | .timing _ => .held
  | .held => .held

/-- R147: the Slate Unit at start-up. -/
def Settings.startSlate (set : Settings) (c : ContactState) : SlateUnit where
  contact := c.atStart
  lockout := none
  ring := []
  overwritten := 0
  flash := set.flash
  burst := none
  pointer := .auto
  panel := set.panel
  hold := none

/-- R164, R173: link `l` at start-up; its pause input is a pin and keeps its level. -/
def Settings.startLink (set : Settings) (links : Four LinkPort) (l : LinkId) : LinkPort :=
  clearedLink (set.divisors.get l) (set.notices.get l) (links.get l).pause

/-- R178: start-up, from power-on, the reset line or a RESTART. -/
def State.startUp (s : State) : State :=
  let set := s.store.startSettings
  { pending := s.pending
    hc := set.startClock
    tu := ⟨set.house, none, [], set.autoJam⟩
    inputs := set.inputs.map (fun k => clearedInput k (k.expectedUnder set.house))
    outputs := set.outputs.map (fun c => blankOutput.accept (setupOf set.house 0 c) 0)
    tt := emptyTable
    su := set.startSlate s.su.contact
    links := ⟨set.startLink s.links 0, set.startLink s.links 1, set.startLink s.links 2, set.startLink s.links 3⟩
    store := s.store.afterStart }

/-! ### RESTART (R179) and the character sent (R161) -/

/-- R179: RESTART. -/
def restartRequest (s : State) : State × Reply :=
  if s.store.write.isSome then (s, .no .busy)
  else if s.store.state ≠ .good then (s, .no .storeFault)
  else (s, .accepted [] .restart)

/-- R149, R161, R179: the character link `l` is sending has been sent; the last one of an accepted RESTART's response brings
start-up. -/
def State.sendChar (s : State) (l : LinkId) : State :=
  if (s.link l).isSending then
    let s := s.modLink l LinkPort.charSent
    if (s.link l).restartAfter = some 0 then s.startUp else s
  else s

/-! ### DEFAULTS (R180) -/

/-- R173, R180: the factory notice settings on every link. -/
def State.defaultNotices (s : State) : State :=
  { s with links := s.links.map (fun p : LinkPort => p.applyNotices factoryNotices s.tick) }

/-- R55: DEFAULTS on the Timeline Unit; the origin tick of a change it applied. -/
def State.defaultHouse (s : State) : State × Option Nat :=
  let s := s.modTu (fun t => { t with autoJam := none, change := none })
  if s.tu.house.rate = .f24 ∧ s.tu.house.drop = false then (s, none)
  else
    let origin := s.nowOrigin .f24
    if Config.maxTick < origin then (s, none)
    else ((s.setHouse ⟨.f24, false, origin, ⟨0, 0, 0, 0⟩⟩ true).1, some origin)

/-- R58, R180: the factory settings on every input lane. The lanes act in the order I0 to I7, and so their notices stand (DESIGN
CHOICE, log entry 32). -/
def State.defaultInputs (s : State) : State := allLanes.foldl (fun s i => s.applyInput i factoryInput) s

/-- R97, R180: kind OFF on every output lane. -/
def State.defaultOutputs (s : State) : State := allLanes.foldl (fun s o => s.acceptOutput o .off) s

/-- R149, R180: divisor 6 on every link but the requesting one. -/
def State.defaultDivisors (s : State) (l : LinkId) : State :=
  allLinks.foldl (fun s k => if k = l then s else s.modLink k (fun p => p.installDivisor 6)) s

/-- R180: DEFAULTS' effect in the rule's block order; the origin tick of a house change it applied. -/
def State.loadDefaults (s : State) (l : LinkId) : State × Option Nat :=
  let s := s.defaultNotices.applyReference .off .f24 .track (some 0)
  let done := s.defaultHouse
  let s := done.1.defaultInputs.defaultOutputs
  (((s.acceptFlash factoryFlash).acceptPanel factoryPanel).defaultDivisors l, done.2)

/-- R180: DEFAULTS on link `l`. -/
def defaultsRequest (l : LinkId) (s : State) : State × Reply :=
  if 0 < s.tt.rollingCount then (s, .no .rolling)
  else
    let done := s.loadDefaults l
    (done.1, .accepted (flagChar done.2.isSome :: presentOr 6 tickChars done.2) (.divisor 6))

/-! ### Meanings -/

/-- SAVE (R176). -/
def execSave (l : LinkId) (s : State) : Host.Outcome State Fault Refusal := .next (takeRequest l (.save l) (saveRequest l) s)

/-- RESTART (R179). -/
def execRestart (l : LinkId) (s : State) : Host.Outcome State Fault Refusal := .next (takeRequest l (.restart l) restartRequest s)

/-- DEFAULTS (R180). -/
def execDefaults (l : LinkId) (s : State) : Host.Outcome State Fault Refusal :=
  .next (takeRequest l (.defaults l) (defaultsRequest l) s)

/-- START_UP (R178). -/
def execStartUp (s : State) : Host.Outcome State Fault Refusal := .next s.startUp

/-- WRITE_END (R177). -/
def execWriteEnd (s : State) : Host.Outcome State Fault Refusal := .next (if s.writeDue then s.endWrite else s)

/-- CHARACTER_SENT (R161, R149, R179). -/
def execCharacterSent (l : LinkId) (s : State) : Host.Outcome State Fault Refusal := .next (s.sendChar l)

end Sys2Proof.Machine
end

