-- ==== Sys2Proof/Machine/Clock.lean ====
section
/-! DEFINITION. The part's own time: HOUSE_FULL (R25), one period of the house oscillator (R24), and the events that fall
due by themselves. Which of several events due at one tick comes first is the model's choice where the reference lets either be first
(log entry 4); a sender that wants another order commands the event itself. -/

namespace Sys2Proof.Machine

/-! ### HOUSE_FULL and the oscillator (R24, R25) -/

/-- R25: the count has reached its maximum and HOUSE_FULL does not stand yet. -/
def State.fullDue (s : State) : Bool := !s.hc.full && decide (Config.maxTick ≤ s.tick)

/-- R25, R95, R136: HOUSE_FULL is set; every output lane idles and a running burst ends. -/
def State.setFull (s : State) : State :=
  let s := s.modHc (fun h => { h with full := true })
  let s := { s with outputs := s.outputs.map (fun v : OutLane => v.idleAtFull s.tick) }
  s.modSu (fun u => { u with burst := none })

/-- R24: fine position units in one tick. -/
abbrev fineWrap : Nat := Config.finePerTick * Config.fineUnit

/-- R24: the fine position units that one oscillator period adds under the trim. -/
def HouseClock.periodAdds (h : HouseClock) : Nat := ((Config.fineUnit : Int) + h.trim).toNat

/-- R24, R25: one period of the house oscillator: the fine position advances; a tick ends where it passes a whole multiple of
32, and the count rises by one unless it stands at the maximum. -/
def HouseClock.advance (h : HouseClock) : HouseClock :=
  let f := h.fine + h.periodAdds
  if f < fineWrap then { h with fine := f }
  else { h with fine := f - fineWrap, tick := min Config.maxTick (h.tick + 1) }

/-- R24: one period of the house oscillator on the whole part. -/
def State.oscillate (s : State) : State := s.modHc HouseClock.advance

/-! ### Events that fall due -/

/-- An event that is due, as a list of at most one. -/
def dueAs (due : Bool) (c : Instr) : List Instr := if due then [c] else []

/-- The input lane events that are due. -/
def State.inputDue (s : State) (i : LaneId) : List Instr :=
  dueAs (s.missingDue i) (.missingExpiry i) ++ dueAs (s.silenceDue i) (.silenceExpiry i)

/-- The output lane events that are due. -/
def State.outputDue (s : State) (o : LaneId) : List Instr :=
  dueAs (s.effectDue o) (.effectBoundary o) ++ dueAs (s.pulseEndDue o) (.pulseEnd o) ++ dueAs (s.fallDue o) (.wordclockFall o)
    ++ dueAs (s.pulseStartDue o) (.pulseStart o) ++ dueAs (s.compositionDue o) (.wordComposition o)
    ++ dueAs (s.riseDue o) (.wordclockRise o)

/-- The Slate Unit and Settings Store events that are due. -/
def State.unitDue (s : State) : List Instr :=
  dueAs s.debounceDue .debounceExpiry ++ dueAs s.burstStepDue .burstStep ++ dueAs s.burstEndDue .burstEnd
    ++ dueAs s.holdDue .holdEnd ++ dueAs s.writeDue .writeEnd

/-- R158: what a link free to answer takes from DONE. -/
def LinkPort.heldCommand (p : LinkPort) (l : LinkId) : List Instr :=
  match p.assembler with
  | .done (.request kind body) => if p.free then (decodeRequest l kind body).toList else []
  | .done (.refusal _ _) => dueAs p.free (.assemblerRefusal l)
  | .idle | .length _ | .body .. | .check .. => []

/-- R160: the feeder has a character to move, or a waiting response to choose. -/
def LinkPort.feedDue (p : LinkPort) : Bool :=
  match p.feeder with
  | .free => p.response.isSome
  | .response => p.response.isSome && p.txRoom
  | .notice _ _ => p.txRoom

/-- The events of link `l` that come about by themselves (R154, R158, R160, R169, R170). -/
def State.linkDue (s : State) (l : LinkId) : List Instr :=
  let p := s.link l
  dueAs (p.batchDue s.tick) (.batchExpiry l) ++ dueAs (!p.rx.isEmpty && !p.assembler.isDone) (.characterTaken l)
    ++ p.heldCommand l ++ dueAs p.feedDue (.feederCharacter l) ++ dueAs p.noticeReady (.noticeFed l)

/-- Every event that is due now, in the order the model takes them. -/
def State.dueCommands (s : State) : List Instr :=
  dueAs s.changeDue .pendingChangeDue ++ dueAs s.lossDue .lossExpiry ++ dueAs s.staleDue .staleExpiry
    ++ allLanes.flatMap s.inputDue ++ allLanes.flatMap s.outputDue ++ s.unitDue ++ dueAs s.fullDue .houseFull
    ++ allLinks.flatMap s.linkDue

/-! ### Meaning -/

/-- HOUSE_FULL (R25). -/
def execHouseFull (s : State) : Host.Outcome State Fault Refusal := .next (if s.fullDue then s.setFull else s)

end Sys2Proof.Machine
end

