-- ==== Sys2Proof/Machine/Dispatch.lean ====
section
/-! DEFINITION. One arm per command: each is one direct call of its meaning. -/

namespace Sys2Proof.Machine

def exec (i : Instr) (s : State) : Host.Outcome State Fault Refusal :=
  match i with
  | .status l => Sys2Proof.Machine.execStatus l s
  | .readClock l => Sys2Proof.Machine.execReadClock l s
  | .setHouse l rateClass label atCode tick => Sys2Proof.Machine.execSetHouse l rateClass label atCode tick s
  | .jam l lane => Sys2Proof.Machine.execJam l lane s
  | .unjam l => Sys2Proof.Machine.execUnjam l s
  | .setAutojam l setting => Sys2Proof.Machine.execSetAutojam l setting s
  | .setReference l source rateClass loop trimMode trim => Sys2Proof.Machine.execSetReference l source rateClass loop trimMode trim s
  | .readReference l => Sys2Proof.Machine.execReadReference l s
  | .setInput l lane kind rateClass drop role lead window silence tolerance => Sys2Proof.Machine.execSetInput l lane kind rateClass drop role lead window silence tolerance s
  | .readInput l lane => Sys2Proof.Machine.execReadInput l lane s
  | .capture l lane mode flush => Sys2Proof.Machine.execCapture l lane mode flush s
  | .peek l lane count => Sys2Proof.Machine.execPeek l lane count s
  | .setOutput l lane kind fields => Sys2Proof.Machine.execSetOutput l lane kind fields s
  | .readOutput l lane => Sys2Proof.Machine.execReadOutput l lane s
  | .arm l scene shot number flags count slots => Sys2Proof.Machine.execArm l scene shot number flags count slots s
  | .roll l take => Sys2Proof.Machine.execRoll l take s
  | .cut l take => Sys2Proof.Machine.execCut l take s
  | .close l take => Sys2Proof.Machine.execClose l take s
  | .void l take => Sys2Proof.Machine.execVoid l take s
  | .rate l take rating => Sys2Proof.Machine.execRate l take rating s
  | .mark l take tickMode tick code => Sys2Proof.Machine.execMark l take tickMode tick code s
  | .readTake l take => Sys2Proof.Machine.execReadTake l take s
  | .listTakes l start => Sys2Proof.Machine.execListTakes l start s
  | .collect l take => Sys2Proof.Machine.execCollect l take s
  | .clap l => Sys2Proof.Machine.execClap l s
  | .setSlate l pointer take display lane cycle duty hold => Sys2Proof.Machine.execSetSlate l pointer take display lane cycle duty hold s
  | .readPanel l => Sys2Proof.Machine.execReadPanel l s
  | .setFlash l count onTime duty => Sys2Proof.Machine.execSetFlash l count onTime duty s
  | .readLoose l clear => Sys2Proof.Machine.execReadLoose l clear s
  | .convert l direction sourceA value sourceB => Sys2Proof.Machine.execConvert l direction sourceA value sourceB s
  | .setLink l link divisor => Sys2Proof.Machine.execSetLink l link divisor s
  | .setNotices l classes level timeout => Sys2Proof.Machine.execSetNotices l classes level timeout s
  | .save l => Sys2Proof.Machine.execSave l s
  | .restart l => Sys2Proof.Machine.execRestart l s
  | .defaults l => Sys2Proof.Machine.execDefaults l s
  | .startUp => Sys2Proof.Machine.execStartUp s
  | .houseFull => Sys2Proof.Machine.execHouseFull s
  | .referenceEdge => Sys2Proof.Machine.execReferenceEdge s
  | .lossExpiry => Sys2Proof.Machine.execLossExpiry s
  | .staleExpiry => Sys2Proof.Machine.execStaleExpiry s
  | .pendingChangeDue => Sys2Proof.Machine.execPendingChangeDue s
  | .wordArrival lane w => Sys2Proof.Machine.execWordArrival lane w s
  | .pulseEdge lane => Sys2Proof.Machine.execPulseEdge lane s
  | .missingExpiry lane => Sys2Proof.Machine.execMissingExpiry lane s
  | .silenceExpiry lane => Sys2Proof.Machine.execSilenceExpiry lane s
  | .effectBoundary o => Sys2Proof.Machine.execEffectBoundary o s
  | .pulseStart o => Sys2Proof.Machine.execPulseStart o s
  | .pulseEnd o => Sys2Proof.Machine.execPulseEnd o s
  | .wordComposition o => Sys2Proof.Machine.execWordComposition o s
  | .contactClose => Sys2Proof.Machine.execContactClose s
  | .contactOpen => Sys2Proof.Machine.execContactOpen s
  | .debounceExpiry => Sys2Proof.Machine.execDebounceExpiry s
  | .burstStep => Sys2Proof.Machine.execBurstStep s
  | .burstEnd => Sys2Proof.Machine.execBurstEnd s
  | .holdEnd => Sys2Proof.Machine.execHoldEnd s
  | .characterReceived l data lead framing => Sys2Proof.Machine.execCharacterReceived l data lead framing s
  | .lineBreak l => Sys2Proof.Machine.execLineBreak l s
  | .characterTaken l => Sys2Proof.Machine.execCharacterTaken l s
  | .silenceTimerExpiry l => Sys2Proof.Machine.execSilenceTimerExpiry l s
  | .assemblerRefusal l => Sys2Proof.Machine.execAssemblerRefusal l s
  | .feederCharacter l => Sys2Proof.Machine.execFeederCharacter l s
  | .noticeFed l => Sys2Proof.Machine.execNoticeFed l s
  | .characterSent l => Sys2Proof.Machine.execCharacterSent l s
  | .pauseAsserted l => Sys2Proof.Machine.execPauseAsserted l s
  | .pauseReleased l => Sys2Proof.Machine.execPauseReleased l s
  | .batchExpiry l => Sys2Proof.Machine.execBatchExpiry l s
  | .writeEnd => Sys2Proof.Machine.execWriteEnd s
  | .wordclockRise o => Sys2Proof.Machine.execWordclockRise o s
  | .wordclockFall o => Sys2Proof.Machine.execWordclockFall o s
  | .breakEnd l => Sys2Proof.Machine.execBreakEnd l s

end Sys2Proof.Machine
end

