-- ==== Sys2Proof/Machine/Step.lean ====
section
/-! DEFINITION. One step of the block: the command at the front of the queue, or, on an empty queue, the part's own time. -/

namespace Sys2Proof.Machine

/-- The part with no command waiting: an event of its own that is due, or else one period of the house oscillator
(DESIGN CHOICE, log entry 4). -/
def idle (s : State) : Host.Outcome State Fault Refusal :=
  match s.dueCommands with
  | c :: _ => exec c s
  | [] => .next s.oscillate

/-- One step: the command at the front of the queue is taken, with the queue's rest. -/
def step (s : State) : Host.Outcome State Fault Refusal :=
  match s.pending with
  | c :: rest => exec c { s with pending := rest }
  | [] => idle s

/-- A state with the command that a word spells at the front of its queue; the table gives its rows no bits, so a word spells
none and the state is unchanged. -/
def State.withFetchWord (s : State) (nbits w : Nat) : State :=
  match decodeTableWord nbits w with
  | some c => { s with pending := c :: s.pending }
  | none => s

end Sys2Proof.Machine
end

