-- ==== Sys2Proof/Safety.lean ====
section
/-! DEFINITION. The terms that claims use: when a request can be taken, what an answered request leaves on its link, which
events the part owes, and the invariants that every step keeps (the bounds of the clock, the links, the tables and the queues,
and the order of a take's ticks). A run is safe when all of these hold along it; the part has no fault, so a run never stops. -/

namespace Sys2Proof

/-- The requests that read and change nothing but their own link. -/
def Instr.onlyReads : Instr → Bool
  | .readClock _ | .readReference _ | .readOutput .. | .readTake .. | .listTakes .. | .readPanel _ | .convert .. => true
  | .status _ | .setHouse .. | .jam .. | .unjam _ | .setAutojam .. | .setReference .. | .setInput .. | .readInput .. | .capture ..
  | .peek .. | .setOutput .. | .arm .. | .roll .. | .cut .. | .close .. | .void .. | .rate .. | .mark .. | .collect .. | .clap _
  | .setSlate .. | .setFlash .. | .readLoose .. | .setLink .. | .setNotices .. | .save _ | .restart _ | .defaults _ | .startUp
  | .houseFull | .referenceEdge | .lossExpiry | .staleExpiry | .pendingChangeDue | .wordArrival .. | .pulseEdge _
  | .missingExpiry _ | .silenceExpiry _ | .effectBoundary _ | .pulseStart _ | .pulseEnd _ | .wordComposition _ | .contactClose
  | .contactOpen | .debounceExpiry | .burstStep | .burstEnd | .holdEnd | .characterReceived .. | .lineBreak _
  | .characterTaken _ | .silenceTimerExpiry _ | .assemblerRefusal _ | .feederCharacter _ | .noticeFed _ | .characterSent _
  | .pauseAsserted _ | .pauseReleased _ | .batchExpiry _ | .writeEnd | .wordclockRise _ | .wordclockFall _ | .breakEnd _ => false

end Sys2Proof

namespace Sys2Proof.Machine

/-! ### Taking and answering a request -/

/-- R158: request `c` can be taken on link `l` now. -/
def State.takes (s : State) (l : LinkId) (c : Instr) : Bool := (s.link l).canTake (requestFrame c).1 (requestFrame c).2

/-- R158: the state in which link `l` has taken a request of kind `kind` and holds reply `r` as its waiting response. -/
def State.answered (s : State) (l : LinkId) (kind : Byte) (r : Reply) : State := s.modLink l (fun p => p.leaveDone.answer kind r)

/-! ### The events the part owes -/

/-- R24, R158: the part itself owes command `c` at this tick: an event whose rule's condition holds, or a request held in DONE by a link
free to take it. What only the outside brings (a pin, an arrival, a character on a line, a start-up) is never owed. -/
def State.Owes (s : State) (c : Instr) : Prop :=
  match c with
  | .houseFull => s.hc.full = false ∧ Config.maxTick ≤ s.tick
  | .lossExpiry => s.hc.full = false ∧ (s.hc.state = .acquire ∨ s.hc.state = .locked) ∧
      ∃ e, s.hc.nextExpected = some e ∧ e + 2 * s.refPeriod ≤ s.tick
  | .staleExpiry => s.hc.full = false ∧ s.hc.state = .holdover ∧ s.hc.stale = false ∧
      ∃ h, s.hc.holdoverSince = some h ∧ h + 432000000 ≤ s.tick
  | .pendingChangeDue => ∃ tl, s.tu.change = some ⟨tl, false⟩ ∧ tl.origin ≤ s.tick
  | .missingExpiry i => s.hc.full = false ∧ (s.input i).state = .tracking ∧ ∃ g, (s.input i).good = some g ∧
      g.arrival + (1 + (s.input i).missed) * (s.input i).settings.rate.period + (s.input i).settings.rate.period / 2 < s.tick
  | .silenceExpiry i => (s.input i).state ≠ .silent ∧ ∃ a, (s.input i).latest = some a ∧
      a.arrival + (s.input i).settings.silence * (s.input i).settings.rate.period ≤ s.tick
  | .effectBoundary o => s.hc.full = false ∧ (s.output o).state = .waiting ∧ ∃ b, (s.output o).nextBoundary = some b ∧ b ≤ s.tick
  | .pulseStart o => s.hc.full = false ∧ (s.output o).state = .running ∧ ∃ rate drop placement duration tl phase b,
      (s.output o).inForce = some ⟨.pulse rate drop placement duration, tl, phase⟩ ∧ (s.output o).nextBoundary = some b ∧
      b + placement ≤ s.tick
  | .pulseEnd o => s.hc.full = false ∧ (s.output o).state = .running ∧ ∃ rate drop placement duration tl phase e,
      (s.output o).inForce = some ⟨.pulse rate drop placement duration, tl, phase⟩ ∧ (s.output o).highUntil = some e ∧ e ≤ s.tick
  | .wordComposition o => s.hc.full = false ∧ (s.output o).state = .running ∧ ∃ r d line u tl phase b,
      (s.output o).inForce = some ⟨.timecode r d line u, some tl, phase⟩ ∧ (s.output o).nextBoundary = some b ∧ b ≤ s.tick
  | .wordclockRise o => s.hc.full = false ∧ (s.output o).state = .running ∧ ∃ sr p tl phase b,
      (s.output o).inForce = some ⟨.wordclock sr p, tl, phase⟩ ∧ (s.output o).nextBoundary = some b ∧ b ≤ s.tick
  | .wordclockFall o => s.hc.full = false ∧ (s.output o).state = .running ∧ ∃ sr p tl phase e,
      (s.output o).inForce = some ⟨.wordclock sr p, tl, phase⟩ ∧ (s.output o).highUntil = some e ∧ e ≤ s.tick
  | .debounceExpiry => ∃ t, s.su.contact = .timing t ∧ t + 1440 ≤ s.tick
  | .burstStep => ∃ b, s.su.burst = some b ∧ b.nextStep ≤ s.tick ∧ (b.lit = false ∨ 0 < b.toBegin)
  | .burstEnd => ∃ b, s.su.burst = some b ∧ b.nextStep ≤ s.tick ∧ b.lit = true ∧ b.toBegin = 0
  | .holdEnd => ∃ h, s.su.hold = some h ∧ h.endTick ≤ s.tick
  | .writeEnd => ∃ w, s.store.write = some w ∧ w.endTick ≤ s.tick
  | .batchExpiry l => ∃ t, (s.link l).batchExpiry = some t ∧ t ≤ s.tick
  | .characterTaken l => (s.link l).rx ≠ [] ∧ (s.link l).assembler.isDone = false
  | .assemblerRefusal l => (s.link l).free = true ∧ ∃ k code, (s.link l).assembler = .done (.refusal k code)
  | .feederCharacter l => ((s.link l).feeder = .free ∧ (s.link l).response ≠ none) ∨
      ((s.link l).tx.length < 32 ∧ (((s.link l).feeder = .response ∧ (s.link l).response ≠ none) ∨
        ∃ entered rest, (s.link l).feeder = .notice entered rest))
  | .noticeFed l => (s.link l).feeder = .free ∧ (s.link l).response = none ∧ (s.link l).release = true ∧
      (s.link l).restartAfter = none ∧ (s.link l).queue ≠ []
  | .startUp | .referenceEdge | .wordArrival .. | .pulseEdge _ | .contactClose | .contactOpen | .characterReceived .. | .lineBreak _
  | .breakEnd _ | .silenceTimerExpiry _ | .characterSent _ | .pauseAsserted _ | .pauseReleased _ => False
  | .status l | .readClock l | .setHouse l .. | .jam l _ | .unjam l | .setAutojam l _ | .setReference l .. | .readReference l
  | .setInput l .. | .readInput l _ | .capture l .. | .peek l .. | .setOutput l .. | .readOutput l _ | .arm l .. | .roll l _
  | .cut l _ | .close l _ | .void l _ | .rate l .. | .mark l .. | .readTake l _ | .listTakes l _ | .collect l _ | .clap l
  | .setSlate l .. | .readPanel l | .setFlash l .. | .readLoose l _ | .convert l .. | .setLink l .. | .setNotices l ..
  | .save l | .restart l | .defaults l => (s.link l).free = true ∧ ∃ kind body,
      (s.link l).assembler = .done (.request kind body) ∧ decodeRequest l kind body = some c

/-! ### The clock -/

/-- R26: a trim within its range. -/
def trimInRange (v : Int) : Prop := -Config.trimLimit ≤ v ∧ v ≤ Config.trimLimit

/-- R24 to R26: the house tick within its range, HOUSE_FULL only at the maximum, the fine position within a tick, and the trim in
range, live and stored. -/
structure State.ClockInv (s : State) : Prop where
  tick : s.tick ≤ Config.maxTick
  full : s.hc.full = true → s.tick = Config.maxTick
  fine : s.hc.fine < fineWrap
  trim : trimInRange s.hc.trim
  image : ∀ k, s.store.image = some k → trimInRange k.trim
  write : ∀ w, s.store.write = some w → trimInRange w.snapshot.trim

/-! ### The links -/

/-- R151: the hold output agrees with the receive FIFO's count wherever the count decides it. -/
def LinkPort.HoldInv (p : LinkPort) : Prop := (24 ≤ p.rx.length → p.hold = true) ∧ (p.rx.length ≤ 8 → p.hold = false)

/-- R169: off, the release leaves an empty queue with no expiry, or a queue below its level with its expiry set from its head;
on, the queue is not empty and the expiry is absent. A notice chosen but not begun is still the head of a released queue. -/
def LinkPort.BatchInv (p : LinkPort) : Prop :=
  (p.release = true → p.queue ≠ [] ∧ p.batchExpiry = none) ∧
  (p.release = false →
    match p.queue with
    | [] => p.batchExpiry = none
    | q :: _ => p.queue.length < p.notices.level ∧ p.batchExpiry = some (q.entered + p.notices.timeout * Config.ticksPerMs)) ∧
  (∀ rest, p.feeder = .notice false rest → p.release = true)

/-- R150, R151, R160, R161, R167, R169: one link's FIFOs and queue within their depth, its hold output and its release as the
rules keep them, and a transmitter that sends only while a character is there. -/
structure LinkPort.Sound (p : LinkPort) : Prop where
  rx : p.rx.length ≤ Config.fifoDepth
  tx : p.tx.length ≤ Config.fifoDepth
  queue : p.queue.length ≤ Config.fifoDepth
  hold : p.HoldInv
  sending : p.sending = true → p.tx ≠ []
  batch : p.BatchInv

/-- Every link is sound. -/
def State.LinksInv (s : State) : Prop := ∀ l, (s.link l).Sound

/-! ### The queues of the other blocks -/

/-- R52, R76, R132: the jam history, every capture queue and the loose ring within their depth. -/
structure State.DepthInv (s : State) : Prop where
  history : s.tu.history.length ≤ 3
  captured : ∀ i, (s.input i).captured.length ≤ 4
  ring : s.su.ring.length ≤ 8

/-! ### The take table -/

/-- R98, R100, R101, R104, R105, R112: ids distinct and in range, the three counts true of the records and within their limits, at most 16
marks on a record. -/
structure State.TableInv (s : State) : Prop where
  ids : (s.tt.takes.map Take.id).Nodup
  range : ∀ t, t ∈ s.tt.takes → 1 ≤ t.id ∧ t.id ≤ 65535
  next : 1 ≤ s.tt.nextId ∧ s.tt.nextId ≤ 65535
  table : s.tt.tableCount = s.tt.takes.length ∧ s.tt.tableCount ≤ 64
  openTakes : s.tt.openCount = s.tt.takes.countP Take.isOpen ∧ s.tt.openCount ≤ 8
  rolling : s.tt.rollingCount = s.tt.takes.countP (fun t => t.state == .rolling) ∧ s.tt.rollingCount ≤ 4
  marks : ∀ t, t ∈ s.tt.takes → t.marks.length ≤ 16

/-- R105: no lane is a participant of two ROLLING takes. -/
def State.LanesApart (s : State) : Prop :=
  ∀ t, t ∈ s.tt.takes → ∀ u, u ∈ s.tt.takes → t.state = .rolling → u.state = .rolling → ∀ i, t.lists i = true → u.lists i = true →
    t.id = u.id

/-- R112: start `a` at or before bound `e`, the clap tick and every mark's tick between them, and the marks in tick order. -/
def Take.ticksWithin (t : Take) (a e : Nat) : Prop :=
  a ≤ e ∧ (∀ c, t.clap = some c → a ≤ c ∧ c ≤ e) ∧ (∀ m, m ∈ t.marks → a ≤ m.tick ∧ m.tick ≤ e) ∧
    t.marks.Pairwise (fun x y => x.tick ≤ y.tick)

/-- R98, R112: the ticks of a record at tick `now`. An ARMED take has none and no marks; a ROLLING take has a start and no end; a CUT or
CLOSED take has both. Start, clap and end follow one another; every mark lies in [start, end], `now` standing for the end while ROLLING, and the
marks stand in tick order. -/
def Take.InOrder (t : Take) (now : Nat) : Prop :=
  match t.state with
  | .armed => t.start = none ∧ t.clap = none ∧ t.endTick = none ∧ t.marks = []
  | .rolling => t.endTick = none ∧ ∃ a, t.start = some a ∧ t.ticksWithin a now
  | .cut | .closed => ∃ a e, t.start = some a ∧ t.endTick = some e ∧ e ≤ now ∧ t.ticksWithin a e

/-- R112: every record's ticks in order. -/
def State.TakesInOrder (s : State) : Prop := ∀ t, t ∈ s.tt.takes → t.InOrder s.tick

end Sys2Proof.Machine
end

