-- ==== Sys2Proof/Certificates/Slice0/Obligations.lean ====
section
/-! DEFINITION. The statements about the KV412 model, from the numbered rules of the reference. Each is a proposition; none is
proved here. A statement about a request says its whole next state, so what it does not name is unchanged: `answered` touches the
requesting link alone, and `post` the links alone. -/

open Sys2Proof Sys2Proof.Machine

/-! ### Steps, requests and answers -/

/-- One step takes the command at the front of the queue and runs it with the queue's rest. -/
def Obligations.StepTakesFrontCommand : Prop :=
  ∀ (s : State) (c : Instr) (rest : List Instr), s.pending = c :: rest → step s = exec c { s with pending := rest }

/-- With no command waiting, a step takes an event that is due, or else one period of the house oscillator (log entry 4: the
model's choice). The fine position and the tick together advance by 10^8 + trim units of 10^−8 fine count (R24); the count holds
at its maximum (R25), and nothing but the tick and the fine position changes. The due events are exactly those whose rule's
condition holds, each as State.Owes spells it: the expiries (R25, R34, R36, R46, R66, R69, R128, R142, R169, R177), the
boundaries and edges of an output lane (R85, R86, R88, R94), a burst's steps (R135), a character for the assembler (R154), an
outcome held in DONE on a free link (R158), and the feeder's next character or notice (R160, R170). -/
def Obligations.IdleStepTakesDueEventOrAdvances : Prop :=
  (∀ s : State, s.ClockInv → s.pending = [] →
    (∀ c rest, s.dueCommands = c :: rest → step s = exec c s) ∧
    (s.dueCommands = [] → ∃ t, step s = .next t ∧ t = { s with hc := { s.hc with tick := t.hc.tick, fine := t.hc.fine } } ∧
      (s.tick < Config.maxTick → (t.tick = s.tick ∨ t.tick = s.tick + 1) ∧
        (t.tick * 3200000000 + t.hc.fine : Int) = s.tick * 3200000000 + s.hc.fine + 100000000 + s.hc.trim) ∧
      (s.tick = Config.maxTick → t.tick = Config.maxTick))) ∧
  ∀ (s : State) (c : Instr), c ∈ s.dueCommands ↔ s.Owes c

/-- Every command, in every state, answers a next state, and leaves the queue of waiting commands as it is. That an event
commanded out of its condition answers a next state is the model's choice (log entry 4), and so is that the queue goes through a
start-up unchanged (log entry 22). -/
def Obligations.EveryCommandCompletes : Prop := ∀ (c : Instr) (s : State), ∃ t, exec c s = .next t ∧ t.pending = s.pending

/-- R158: a request that a link takes is answered by exactly one response. It is accepted, or it is refused and then nothing but
the requesting link's assembler and waiting response changes: a refusal reaches the requesting link only and sends no notice. -/
def Obligations.TakenRequestIsAcceptedOrRefused : Prop :=
  ∀ (c : Instr) (l : LinkId) (s : State), requestLink c = some l → s.takes l c = true →
    (∃ (u : State) (body : List Byte) (after : AfterSend), u.pending = s.pending ∧
      exec c s = .next (u.answered l (requestFrame c).1 (.accepted body after))) ∨
    (∃ (code : RefusalCode) (carried : Option TakeState),
      exec c s = .next (s.answered l (requestFrame c).1 (.refused code carried)))

/-- R158: a request that cannot be taken is held in DONE where the link is not free and its assembler is IDLE; otherwise it has
no effect (log entry 3: the model's reading of a request given as a command). -/
def Obligations.UntakenRequestIsHeld : Prop :=
  ∀ (c : Instr) (l : LinkId) (s : State), requestLink c = some l → s.takes l c = false →
    ((s.link l).free = false ∧ (s.link l).assembler = .idle →
      exec c s = .next (s.modLink l (fun p =>
        { p with assembler := .done (judgedFrame (requestFrame c).1 (requestFrame c).2) }))) ∧
    ((s.link l).free = true ∨ (s.link l).assembler ≠ .idle → exec c s = .next s)

/-- R153, R159: an answered link holds the response frame, none of its characters sent; its assembler is out of DONE, and what
the sending of the response will bring is noted with the count of characters still to send (log entry 6: the model's countdown);
nothing else of the part changes. The frame is lead, length, body and check: lead kind code + 0x80 and the rule's body for an
acceptance, lead 0xFF, length 2, kind code and refusal code for a refusal. The sum of a frame's characters is 0 modulo 256, and
the lead marker stands on its first character only. -/
def Obligations.AnswerFrames : Prop :=
  (∀ (s : State) (l : LinkId) (kind : Byte) (r : Reply),
    (s.answered l kind r).link l =
      { s.link l with
        assembler := match (s.link l).assembler with
          | .done _ => .idle
          | a => a
        response := some ⟨r.frame kind, 0, r.carried⟩
        pendingDivisor := match r with
          | .accepted _ (.divisor d) => some ⟨d, (s.link l).charsAhead + (r.frame kind).length⟩
          | _ => (s.link l).pendingDivisor
        restartAfter := match r with
          | .accepted _ .restart => some ((s.link l).charsAhead + (r.frame kind).length)
          | _ => (s.link l).restartAfter } ∧
    ((s.answered l kind r).link l).assembler.isDone = false ∧
    (∀ k, k ≠ l → (s.answered l kind r).link k = s.link k) ∧
    s.answered l kind r = { s with links := (s.answered l kind r).links }) ∧
  (∀ (kind : Byte) (body : List Byte) (after : AfterSend),
    (Reply.accepted body after).frame kind =
      ⟨kind + 0x80#8, true⟩ :: ⟨char body.length, false⟩ :: (body.map (fun b => ⟨b, false⟩) ++ [⟨checkChar (kind + 0x80#8) body, false⟩])) ∧
  (∀ (kind : Byte) (code : RefusalCode) (carried : Option TakeState),
    (Reply.refused code carried).frame kind =
      [⟨0xFF#8, true⟩, ⟨2#8, false⟩, ⟨kind, false⟩, ⟨code.code, false⟩, ⟨checkChar 0xFF#8 [kind, code.code], false⟩]) ∧
  (∀ (lead : Byte) (body : List Byte), ((frameChars lead body).map TxChar.data).foldl (· + ·) 0#8 = 0#8)

/-- R182, 11.5: the frame of every well-formed request reads back as that request: no character of a body is dropped. -/
def Obligations.RequestFrameRoundTrip : Prop :=
  ∀ (c : Instr) (l : LinkId), c.wellFormed = true → requestLink c = some l →
    decodeRequest l (requestFrame c).1 (requestFrame c).2 = some c

/-- R166 to R169: a notice handed over is offered to every link. A link whose subscription lacks its class does not take it; one
with room queues it at the tail with its GAP flag as the notice's GAP bit and clears the flag, its release going on where the
count after the entry reaches the batch level, its batch expiry set by an entry into an empty queue and absent while the release
is on; one whose queue holds 32 loses it and sets the flag. Nothing else of the part changes. -/
def Obligations.NoticeHandover : Prop :=
  ∀ (s : State) (b : NoticeBody),
    s.post b = { s with links := (s.post b).links } ∧
    ∀ k, let p := s.link k
      (p.subscribes b.noticeClass = false → (s.post b).link k = p) ∧
      (p.subscribes b.noticeClass = true → p.queue.length < 32 →
        let release := p.release || decide (p.notices.level ≤ p.queue.length + 1)
        (s.post b).link k =
          { p with
            queue := p.queue ++ [⟨⟨b, s.tick⟩, p.gap, s.tick⟩]
            gap := false
            release := release
            batchExpiry :=
              if release = true then none else if p.queue = [] then some (s.tick + p.notices.timeout * 720) else p.batchExpiry }) ∧
      (p.subscribes b.noticeClass = true → 32 ≤ p.queue.length → (s.post b).link k = { p with gap := true })

/-- R153, R165, R168, R170, R182, 11.7: the frame of a queued notice: the lead 0xFE, then the kind code, the GAP bit, the event
tick, the subject (take id, or the lane, or 0) and the detail of its kind, field by field; and the class of each kind. R182,
11.4: the fields they are made of: a number in n characters, most significant first; a signed one in two's complement; a label
with its drop flag; an origin; an item that may be absent; a timeline; and the codes of R182 and R183. The codes of reference
and store states are the model's reading (log entry 18). -/
def Obligations.NoticeFramesAndFieldCodes : Prop :=
  (∀ (b : NoticeBody) (tick entered : Nat) (gap : Bool),
    let frame (code : Byte) (subject : Nat) (detail : List Byte) : Prop :=
      (QueuedNotice.mk ⟨b, tick⟩ gap entered).frame = frameChars 0xFE#8 ([code, flagChar gap] ++ tickChars tick ++ bytesOf 2 subject ++ detail)
    match b with
    | .takeState id prev now cause actor start fin => b.noticeClass = .take ∧ frame 0x01#8 id
        ([(prev.map TakeState.code).getD 0xFF#8, (now.map TakeState.code).getD 4#8, cause.code, originChar actor,
          flagChar start.isSome ||| (flagChar fin.isSome <<< 1)] ++ tickChars (start.getD 0) ++ tickChars (fin.getD 0))
    | .autoRollRefused id lane code => b.noticeClass = .take ∧ frame 0x02#8 id [char lane.val, code.code]
    | .marksFull id at_ kind => b.noticeClass = .take ∧ frame 0x03#8 id (tickChars at_ ++ [kind.code])
    | .clap id stamp source second => b.noticeClass = .clap ∧ frame 0x04#8 id (tickChars stamp ++ [originChar source, flagChar second])
    | .looseClap stamp source n lost => b.noticeClass = .clap ∧ frame 0x05#8 0 (tickChars stamp ++ [originChar source, char n, char lost])
    | .laneState lane prev now cause lock => b.noticeClass = .lane ∧ frame 0x06#8 lane.val
        ([prev.code, now.code, cause.code] ++ presentOr 5 offsetChars lock)
    | .slip lane stamp new old n => b.noticeClass = .lane ∧ frame 0x07#8 lane.val
        (tickChars stamp ++ offsetChars new ++ offsetChars old ++ bytesOf 2 n)
    | .dropout lane stamp role => b.noticeClass = .lane ∧ frame 0x08#8 lane.val (tickChars stamp ++ [role.code])
    | .houseChanged cause tl depth lane => b.noticeClass = .house ∧ frame 0x09#8 0
        ([cause.code, char tl.rate.cls] ++ tickChars tl.origin ++ labelChars tl.label tl.drop
          ++ [char depth, (lane.map (fun i => char i.val)).getD 0xFF#8])
    | .referenceState prev now stale trim => b.noticeClass = .house ∧ frame 0x0A#8 0
        ([prev.code, now.code, flagChar stale] ++ signedChars 2 trim)
    | .saveDone taken link store cleared => b.noticeClass = .store ∧ frame 0x0B#8 0
        (tickChars taken ++ [char link.val, store.code, flagChar cleared])) ∧
  (∀ n v : Nat, (bytesOf n v).length = n ∧ (bytesOf n v).foldl (fun a b => a * 256 + b.toNat) 0 = v % 256 ^ n) ∧
  (∀ (n : Nat) (v : Int), signedChars n v = bytesOf n (v % (256 ^ n : Nat)).toNat) ∧
  (∀ t, tickChars t = bytesOf 6 t) ∧ (∀ v, offsetChars v = signedChars 5 v) ∧ flagChar false = 0#8 ∧ flagChar true = 1#8 ∧
  (∀ n, (char n).toNat = n % 256) ∧
  (∀ (l : Label) (drop : Bool), labelChars l drop = [char l.hh, char l.mm, char l.ss, char l.ff, flagChar drop]) ∧
  (∀ tl : Timeline, timelineChars tl = char tl.rate.cls :: tickChars tl.origin ++ labelChars tl.label tl.drop) ∧
  (∀ (l : LinkId) (i : LaneId), (originChar (.link l)).toNat = l.val ∧ (originChar (.lane i)).toNat = 16 + i.val) ∧
  originChar .contact = 0x20#8 ∧
  (∀ (α : Type) (n : Nat) (f : α → List Byte) (a : α), presentOr n f none = 0#8 :: List.replicate n 0#8 ∧ presentOr n f (some a) = 1#8 :: f a) ∧
  [NoticeClass.take, .clap, .lane, .house, .store].map NoticeClass.bit = [0, 1, 2, 3, 4] ∧
  [TakeState.armed, .rolling, .cut, .closed].map TakeState.code = [0#8, 1#8, 2#8, 3#8] ∧
  [TakeCause.arm, .roll, .autoRoll, .cut, .autoCut, .close, .void, .evict].map TakeCause.code = [0#8, 1#8, 2#8, 3#8, 4#8, 5#8, 6#8, 7#8] ∧
  [MarkKind.mark, .slip, .dropout, .secondClap].map MarkKind.code = [0#8, 1#8, 2#8, 3#8] ∧
  [Tracking.silent, .seeking, .tracking].map Tracking.code = [0#8, 1#8, 2#8] ∧
  [LaneCause.goodWord, .runComplete, .discontinuity, .errors, .silence, .setInput].map LaneCause.code = [0#8, 1#8, 2#8, 3#8, 4#8, 5#8] ∧
  [Role.camera, .sound, .slate, .other].map Role.code = [0#8, 1#8, 2#8, 3#8] ∧
  [HouseCause.set, .deferred, .jam, .autojam, .unjam].map HouseCause.code = [0#8, 1#8, 2#8, 3#8, 4#8] ∧
  [RefState.off, .acquire, .locked, .holdover].map RefState.code = [0#8, 1#8, 2#8, 3#8] ∧
  [StoreState.blank, .incomplete, .good].map StoreState.code = [0#8, 1#8, 2#8] ∧
  [LoopMode.track, .fixed].map LoopMode.code = [0#8, 1#8] ∧ [InKind.off, .timecode, .pulse].map InKind.code = [0#8, 1#8, 2#8] ∧
  [WordTag.good, .badCheck, .wrongRate, .badLabel].map WordTag.code = [0#8, 1#8, 2#8, 3#8] ∧
  [CaptureMode.off, .one, .continuous].map CaptureMode.code = [0#8, 1#8, 2#8] ∧
  [OutState.off, .waiting, .running].map OutState.code = [0#8, 1#8, 2#8] ∧
  [SampleRate.s44, .s48, .s88, .s96].map SampleRate.code = [0#8, 1#8, 2#8, 3#8] ∧ [Pull.straight, .up, .down].map Pull.code = [0#8, 1#8, 2#8] ∧
  RefSource.off.code = 0#8 ∧ RefSource.refInput.code = 1#8 ∧ (∀ i : LaneId, (RefSource.lane i).code.toNat = 16 + i.val) ∧
  [RefusalCode.badCheck, .lineError, .incomplete, .unknownKind, .badLength, .badValue, .busy, .rolling, .notTracking, .rateMismatch,
    .tableFull, .openFull, .duplicate, .noTake, .wrongState, .rollLimit, .laneBusy, .badParticipant, .range, .collected, .empty,
    .storeFault].map RefusalCode.code =
    [0x01#8, 0x02#8, 0x03#8, 0x04#8, 0x05#8, 0x06#8, 0x07#8, 0x08#8, 0x09#8, 0x0A#8, 0x0B#8, 0x0C#8, 0x0D#8, 0x0E#8, 0x0F#8, 0x10#8,
      0x11#8, 0x12#8, 0x13#8, 0x14#8, 0x15#8, 0x16#8]

/-! ### Picture time and formats -/

/-- R7 to R10: labels and frame numbers convert both ways without loss, in every rate code and allowed drop mode. -/
def Obligations.LabelsAndFrameNumbersInvert : Prop :=
  (∀ (r : RateCode) (drop : Bool) (l : Label), labelValid r drop l = true →
    frameNumber r drop l < framesPerDay r drop ∧ labelOfFrame r drop (frameNumber r drop l) = l) ∧
  (∀ (r : RateCode) (drop : Bool) (n : Nat), dropFits r drop = true → n < framesPerDay r drop →
    labelValid r drop (labelOfFrame r drop n) = true ∧ frameNumber r drop (labelOfFrame r drop n) = n)

/-- R12, R13: a valid label's tick lies within one label day from the origin, and is the first tick of the frame it labels. R42:
a timeline derived from a valid house timeline is valid, keeps the origin tick, and is the house timeline itself on a lane of
the house rate code and drop mode. -/
def Obligations.TimelinesLabelAndFollow : Prop :=
  (∀ (tl : Timeline) (l : Label), tl.valid = true → labelValid tl.rate tl.drop l = true →
    tl.labelAt (tl.tickOf l) = l ∧ tl.subframeAt (tl.tickOf l) = 0 ∧
    tl.origin ≤ tl.tickOf l ∧ tl.tickOf l ≤ tl.origin + (tl.day - 1) * tl.rate.period) ∧
  (∀ (house : Timeline) (r : RateCode) (drop : Bool), house.valid = true → dropFits r drop = true →
    (follow house r drop).valid = true ∧ (follow house r drop).origin = house.origin ∧
    (r = house.rate → drop = house.drop → follow house r drop = house))

/-- R15, R16: the index at the start tick of unit k is k, and stays k up to one tick before the start of unit k + 1, on every
audio stream, frame stream and pulse grid. R45, R84, R93: the boundary formulas give the least tick of their grid at or after
the given tick. -/
def Obligations.UnitStartsAndBoundaries : Prop :=
  (∀ st : Stream,
    ((∃ sr p o, st = audioStream sr p o) ∨ (∃ r o, st = frameStream r o) ∨ (∃ b, customAllowed b = true ∧ st = pulseGrid (.custom b))) →
    ∀ k, st.indexAt (st.startOf k) = k ∧ (∀ t, st.startOf k ≤ t → t < st.startOf (k + 1) → st.indexAt t = k)) ∧
  (∀ p t : Nat, 0 < p → p ∣ gridAtOrAfter p t ∧ t ≤ gridAtOrAfter p t ∧ gridAtOrAfter p t < t + p) ∧
  (∀ o p c : Nat, 0 < p → (p : Int) ∣ (boundaryAtOrAfter o p c : Int) - o ∧ c ≤ boundaryAtOrAfter o p c ∧
    boundaryAtOrAfter o p c < c + p)

/-- R181, R60: a word composed of fields that are valid for a lane carries the sync pattern, checks correctly, is judged good
there, and gives its fields back. -/
def Obligations.ComposedWordIsGood : Prop :=
  ∀ (set : InSettings) (f : WordFields), labelValid set.rate set.drop f.label = true → f.rateClass = set.rate.cls → f.drop = set.drop →
    wordSync (wordOfFields f) = 0x3F4#10 ∧ crc8 (wordBits (wordOfFields f)) = wordCheck (wordOfFields f) ∧
    judgeWord set (wordOfFields f) = .good ∧ fieldsOfBits (wordBits (wordOfFields f)) = f

/-! ### House Clock -/

/-- R25, R95, R136: when the count has reached its maximum, HOUSE_FULL is set, every output line idles with its word in flight
abandoned and its configuration and boundary kept, and a running burst ends; otherwise the event has no effect (log entry 4: the
model's choice). -/
def Obligations.HouseFullIdlesOutputs : Prop :=
  ∀ s : State,
    (s.hc.full = false → Config.maxTick ≤ s.tick → exec .houseFull s = .next
      { s with
        hc := { s.hc with full := true }
        outputs := s.outputs.map (fun o => o.idleAtFull s.tick)
        su := { s.su with burst := none } }) ∧
    (s.hc.full = true ∨ s.tick < Config.maxTick → exec .houseFull s = .next s) ∧
    (∀ (o : OutLane) (c : Nat), (o.idleAtFull c).highUntil = none ∧ (o.idleAtFull c).word = none ∧ (o.idleAtFull c).state = o.state ∧
      (o.idleAtFull c).inForce = o.inForce ∧ (o.idleAtFull c).waiting = o.waiting ∧ (o.idleAtFull c).nextBoundary = o.nextBoundary)

/-- R38, R32, R26: an accepted SET REFERENCE stores source, REF rate, loop mode and the clamped trim, discards the edge history
and enters ACQUIRE, or NONE for source NONE; a changed state is reported. A source, REF rate class, loop mode or trim mode out
of its codes, or a source lane of kind OFF, is refused BAD_VALUE. That a request acts so also while HOUSE_FULL stands is the
model's reading (log entry 28). The widths of the response are the model's reading (log entry 16). -/
def Obligations.SetReferenceEntersState : Prop :=
  ∀ (l : LinkId) (source rateClass loop trimMode : Byte) (trim : BitVec 16) (s : State),
    s.takes l (.setReference l source rateClass loop trimMode trim) = true →
    (refSourceOf source = none ∨ 9 < rateClass.toNat ∨ 1 < loop.toNat ∨ 1 < trimMode.toNat ∨
        (∃ i, refSourceOf source = some (.lane i) ∧ (s.input i).settings.kind = .off) →
      exec (.setReference l source rateClass loop trimMode trim) s = .next (s.answered l 0x07#8 (.no .badValue))) ∧
    ((2 ≤ source.toNat ∧ source.toNat < 0x10) ∨ 0x17 < source.toNat → refSourceOf source = none) ∧
    ∀ (src : RefSource) (r : RateCode) (lp : LoopMode) (field : Option Int),
    refSourceOf source = some src → rateOf rateClass = some r → loopOf loop = some lp → trimFieldOf trimMode trim = some field →
    s.refSourceFits src = true →
    let h : HouseClock :=
      { s.hc with
        source := src
        refRate := r
        loop := lp
        trim := match field with
          | some v => max (-10000) (min 10000 v)
          | none => s.hc.trim
        state := if src = .off then .off else .acquire
        windowStart := none
        edgeCount := 0
        lastEdge := none
        nextExpected := if src = .off then none else some (s.tick + s.periodOf src r)
        inTolerance := 0
        stale := false
        holdoverSince := none }
    exec (.setReference l source rateClass loop trimMode trim) s = .next (State.answered
      (if h.state = s.hc.state ∧ s.hc.stale = false then { s with hc := h }
        else { s with hc := h }.post (.referenceState s.hc.state h.state false h.trim))
      l 0x07#8 (.ok ([src.code, char r.cls, lp.code] ++ signedChars 2 h.trim ++ [h.state.code])))

/-- R25, R27, R29, R35: how an edge of the reference source is screened, from the reference input where the source is REF and
from input lane i where the source is that lane: ignored while it is not the source, HOUSE_FULL stands or the state is NONE; the
first after a restart opens the window; a runt is ignored; a normal edge before the 16th is counted; a gap restarts the window;
in HOLDOVER the edge returns HC to ACQUIRE and is reported. -/
def Obligations.ReferenceEdgeIsScreened : Prop :=
  ∀ s : State, let stamp := s.tick * 32 + s.hc.fine / 100000000
    let period := s.refPeriod
    let screened (r : State) : Prop :=
      ((s.hc.full = true ∨ s.hc.state = .off) → r = s) ∧
      (s.hc.full = false → s.hc.state = .holdover → r =
        ({ s with hc := { s.hc with
            state := .acquire
            stale := false
            holdoverSince := none
            windowStart := some stamp
            edgeCount := 0
            lastEdge := some stamp
            nextExpected := some (s.tick + period)
            inTolerance := 0 } }.post (.referenceState .holdover .acquire false s.hc.trim))) ∧
      (s.hc.full = false → s.hc.state = .acquire ∨ s.hc.state = .locked →
        (s.hc.windowStart = none → r =
          { s with hc := { s.hc with
              windowStart := some stamp
              edgeCount := 0
              lastEdge := some stamp
              nextExpected := some (s.tick + period) } }) ∧
        (∀ start last, s.hc.windowStart = some start → s.hc.lastEdge = some last →
          (2 * (s.tick - last / 32) < period → r = s) ∧
          (period ≤ 2 * (s.tick - last / 32) → 2 * (s.tick - last / 32) ≤ 3 * period → s.hc.edgeCount + 1 < 16 →
            r =
              { s with hc := { s.hc with
                  edgeCount := s.hc.edgeCount + 1
                  lastEdge := some stamp
                  nextExpected := some (s.tick + period) } }) ∧
          (3 * period < 2 * (s.tick - last / 32) → r =
            { s with hc := { s.hc with
                windowStart := some stamp
                edgeCount := 0
                lastEdge := some stamp
                nextExpected := some (s.tick + period)
                inTolerance := if s.hc.state = .acquire then 0 else s.hc.inTolerance } })))
    (s.hc.source ≠ .refInput → exec .referenceEdge s = .next s) ∧
    (s.hc.source = .refInput → period = s.hc.refRate.period ∧ ∃ r, exec .referenceEdge s = .next r ∧ screened r) ∧
    (∀ i, s.hc.source ≠ .lane i → s.laneEdge i = s) ∧
    (∀ i, s.hc.source = .lane i → period = (s.input i).settings.rate.period ∧ screened (s.laneEdge i))

/-- R30, R31, R33: at the 16th accepted edge the correction is the window's error over the nominal span in units of 10^−8, to
the nearest whole number, an exact half away from zero; TRACK moves the trim by a quarter of it, clamped, with LIMIT set where
the clamp was needed; the measuring edge opens the next window, and the correction is judged on the reference state. An edge of
the reference input measures where the source is REF, an edge of lane i where the source is that lane. -/
def Obligations.MeasurementDisciplinesTrim : Prop :=
  ∀ (s : State) (start last : Nat), s.hc.source ≠ .off → s.hc.full = false → s.hc.state = .acquire ∨ s.hc.state = .locked →
    s.hc.windowStart = some start → s.hc.lastEdge = some last → s.hc.edgeCount = 15 →
    s.refPeriod ≤ 2 * (s.tick - last / 32) → 2 * (s.tick - last / 32) ≤ 3 * s.refPeriod →
    let stamp := s.tick * 32 + s.hc.fine / 100000000
    let c := correctionOf start stamp s.refPeriod
    let step := s.hc.trim - Int.tdiv c 4
    let measured : State := (State.reportReference
      { s with hc := { s.hc with
          lastCorrection := some c
          trim := if s.hc.loop = .track then max (-10000) (min 10000 step) else s.hc.trim
          limit := s.hc.loop == .track && decide (10000 < step.natAbs)
          windowStart := some stamp
          edgeCount := 0
          lastEdge := some stamp
          nextExpected := some (s.tick + s.refPeriod)
          inTolerance :=
            if s.hc.state = .acquire then (if c.natAbs ≤ 5 then s.hc.inTolerance + 1 else 0)
            else (if c.natAbs ≤ 100 then s.hc.inTolerance else 0)
          state :=
            if s.hc.state = .acquire then (if c.natAbs ≤ 5 ∧ 4 ≤ s.hc.inTolerance + 1 then .locked else .acquire)
            else (if c.natAbs ≤ 100 then .locked else .acquire) } } s.hc)
    2 * (((stamp : Int) - start - 512 * s.refPeriod) * 100000000 - c * (512 * s.refPeriod : Nat)).natAbs ≤ 512 * s.refPeriod ∧
    (2 * (((stamp : Int) - start - 512 * s.refPeriod) * 100000000 - c * (512 * s.refPeriod : Nat)).natAbs = 512 * s.refPeriod →
      ((stamp : Int) - start - 512 * s.refPeriod).natAbs * 100000000 < c.natAbs * (512 * s.refPeriod)) ∧
    (s.hc.source = .refInput → exec .referenceEdge s = .next measured) ∧
    (∀ i, s.hc.source = .lane i → s.laneEdge i = measured)

/-- R34, R36, R37: a loss expiry that is due puts HC in HOLDOVER with its history discarded and its trim held; a STALE expiry
that is due sets STALE; each hands one REFERENCE_STATE notice. The source lane going SILENT puts HC in HOLDOVER the same way;
another lane, or HC in NONE or HOLDOVER, or HOUSE_FULL (R25), leaves it as it is. That HOUSE_FULL keeps a source lane that goes
SILENT from putting HC in HOLDOVER, and that the loss expiry reads the P_ref of now, are the model's readings (log entry 8);
that an expiry that is not due has no effect is its choice (log entry 4). -/
def Obligations.LossAndStaleExpiries : Prop :=
  ∀ s : State,
    let lost : State := { s with hc := { s.hc with
        state := .holdover
        holdoverSince := some s.tick
        windowStart := none
        edgeCount := 0
        lastEdge := none
        nextExpected := none
        inTolerance := 0 } }.post (.referenceState s.hc.state .holdover s.hc.stale s.hc.trim)
    (∀ e, s.hc.full = false → s.hc.state = .acquire ∨ s.hc.state = .locked → s.hc.nextExpected = some e → e + 2 * s.refPeriod ≤ s.tick →
      exec .lossExpiry s = .next lost) ∧
    (s.lossDue = false → exec .lossExpiry s = .next s) ∧
    (∀ h, s.hc.full = false → s.hc.state = .holdover → s.hc.stale = false → s.hc.holdoverSince = some h → h + 432000000 ≤ s.tick →
      exec .staleExpiry s = .next
        ({ s with hc := { s.hc with stale := true } }.post (.referenceState .holdover .holdover true s.hc.trim))) ∧
    (s.staleDue = false → exec .staleExpiry s = .next s) ∧
    (∀ i, s.hc.source = .lane i → s.hc.full = false → s.hc.state = .acquire ∨ s.hc.state = .locked → s.laneSilent i = lost) ∧
    (∀ i, s.hc.source ≠ .lane i ∨ s.hc.full = true ∨ s.hc.state = .off ∨ s.hc.state = .holdover → s.laneSilent i = s)

/-! ### House timeline -/

/-- R47, R48, R43, R70, R91, R93: a house timeline installed: it is in force; every input lane is re-derived and marked for
rebaseline with its window emptied; every FOLLOW TIMECODE output lane is re-derived and every other output lane kept, as is a
FOLLOW lane whose derived timeline stays the same; on a changed one the word in flight is abandoned, a clap it carried is
indicated again, and the next boundary is c + ((o − c) mod P), a WAITING lane's effect boundary by the same formula; one
HOUSE_CHANGED notice is handed. A change that applies first pushes the timeline it replaces on the history, which keeps the
newest 3 (R52). That the clap returns only where the word's end tick is still ahead is the model's reading (log entry 11). -/
def Obligations.HouseChangeReachesLanes : Prop :=
  ∀ (s : State) (tl : Timeline) (cause : HouseCause) (lane : Option LaneId),
    s.applyHouse tl cause lane =
      { s with tu := { s.tu with history := (s.tu.house :: s.tu.history).take 3 } }.installHouse tl cause lane ∧
    (s.installHouse tl cause lane).tu = { s.tu with house := tl } ∧
    (∀ i, (s.installHouse tl cause lane).input i =
      { s.input i with
        expected :=
          if (s.input i).settings.kind = .timecode then some (follow tl (s.input i).settings.rate (s.input i).settings.drop) else none
        rebaseline := true
        window := ⟨0, 0, 0, 0⟩ }) ∧
    (∀ o, (∀ r d u t p, (s.output o).newest ≠ some ⟨.timecode r d .follow u, t, p⟩) →
      (s.installHouse tl cause lane).output o = s.output o) ∧
    (∀ o r d u t p, (s.output o).newest = some ⟨.timecode r d .follow u, t, p⟩ →
      ((s.installHouse tl cause lane).output o).newestTimeline = some (follow tl r d) ∧
      let su : OutSetup := ⟨.timecode r d .follow u, some (follow tl r d), p⟩
      let b := s.tick + (((tl.origin : Int) - s.tick) % (r.period : Int)).toNat
      (t = some (follow tl r d) → (s.installHouse tl cause lane).output o = s.output o) ∧
      (t ≠ some (follow tl r d) → (s.output o).waiting ≠ none →
        (s.installHouse tl cause lane).output o = { s.output o with waiting := some su, nextBoundary := some b }) ∧
      (t ≠ some (follow tl r d) → (s.output o).waiting = none →
        (s.installHouse tl cause lane).output o =
          { s.output o with
            inForce := some su
            nextBoundary := some b
            word := none
            clapped := (s.output o).clapped || (match (s.output o).word with
              | some w => w.fields.clap && decide (s.tick < w.endTick)
              | none => false) })) ∧
    (∀ k, (s.installHouse tl cause lane).link k =
      (s.link k).offer ⟨.houseChanged cause tl s.tu.history.length lane, s.tick⟩ s.tick) ∧
    (s.installHouse tl cause lane).hc = s.hc ∧ (s.installHouse tl cause lane).tt = s.tt ∧ (s.installHouse tl cause lane).su = s.su ∧
    (s.installHouse tl cause lane).store = s.store ∧ (s.installHouse tl cause lane).pending = s.pending

/-- R44, R45: an accepted SET HOUSE discards any pending change; it is applied if due and no take rolls, held on rolling if due
while one rolls, and held on time if its tick is ahead. With NOW its origin is the first multiple of P at or after the tick
taken, refused RANGE above the maximum. A rate class above 9, an unknown flag or time code, a drop mode not allowed and an
invalid label are refused BAD_VALUE. R46: a change held on time that falls due is applied with cause DEFERRED if no take rolls,
and otherwise waits on rolling; the event has no effect where no change is held on time or its origin tick is ahead. That the
event then has no effect is the model's choice (log entry 4), and the outcome codes 0, 1 and 2 of the response are its reading
(log entry 18). -/
def Obligations.SetHouseAppliesOrHolds : Prop :=
  (∀ (l : LinkId) (rateClass : Byte) (label : LabelField) (atCode : Byte) (tick : BitVec 48) (s : State),
    (s.takes l (.setHouse l rateClass label atCode tick) = true →
      1 < atCode.toNat ∨ 9 < rateClass.toNat ∨ 1 < label.flags.toNat ∨
        (∃ r, rateOf rateClass = some r ∧ labelValid r (label.flags.getLsbD 0)
          ⟨label.hh.toNat, label.mm.toNat, label.ss.toNat, label.ff.toNat⟩ = false) →
      exec (.setHouse l rateClass label atCode tick) s = .next (s.answered l 0x03#8 (.no .badValue))) ∧
    ∀ tl, timelineOf rateClass label tick.toNat = some tl →
    (s.takes l (.setHouse l rateClass label 1#8 tick) = true →
      (tl.origin ≤ s.tick → s.tt.rollingCount = 0 → exec (.setHouse l rateClass label 1#8 tick) s = .next
        (({ s with tu := { s.tu with change := none } }.applyHouse tl .set none).answered l 0x03#8 (.ok (0#8 :: tickChars tl.origin)))) ∧
      (tl.origin ≤ s.tick → 0 < s.tt.rollingCount → exec (.setHouse l rateClass label 1#8 tick) s = .next
        ({ s with tu := { s.tu with change := some ⟨tl, true⟩ } }.answered l 0x03#8 (.ok (1#8 :: tickChars tl.origin)))) ∧
      (s.tick < tl.origin → exec (.setHouse l rateClass label 1#8 tick) s = .next
        ({ s with tu := { s.tu with change := some ⟨tl, false⟩ } }.answered l 0x03#8 (.ok (2#8 :: tickChars tl.origin))))) ∧
    (s.takes l (.setHouse l rateClass label 0#8 tick) = true →
      let o := gridAtOrAfter tl.rate.period s.tick
      (Config.maxTick < o → exec (.setHouse l rateClass label 0#8 tick) s = .next (s.answered l 0x03#8 (.no .range))) ∧
      (o ≤ Config.maxTick → s.tt.rollingCount = 0 → exec (.setHouse l rateClass label 0#8 tick) s = .next
        (({ s with tu := { s.tu with change := none } }.applyHouse { tl with origin := o } .set none).answered l 0x03#8
          (.ok (0#8 :: tickChars o)))) ∧
      (o ≤ Config.maxTick → 0 < s.tt.rollingCount → exec (.setHouse l rateClass label 0#8 tick) s = .next
        ({ s with tu := { s.tu with change := some ⟨{ tl with origin := o }, true⟩ } }.answered l 0x03#8 (.ok (1#8 :: tickChars o)))))) ∧
  ∀ s : State,
    (∀ tl, s.tu.change = some ⟨tl, false⟩ → tl.origin ≤ s.tick →
      (s.tt.rollingCount = 0 → exec .pendingChangeDue s = .next
        ({ s with tu := { s.tu with change := none } }.applyHouse tl .deferred none)) ∧
      (0 < s.tt.rollingCount → exec .pendingChangeDue s = .next { s with tu := { s.tu with change := some ⟨tl, true⟩ } })) ∧
    ((∀ tl, s.tu.change = some ⟨tl, false⟩ → s.tick < tl.origin) → exec .pendingChangeDue s = .next s)

/-- R49, R50: JAM is refused BAD_VALUE for a lane number above 7, then ROLLING, NOT_TRACKING, RATE_MISMATCH or RANGE, in that
order; accepted, it discards any pending change and sets the house timeline from the lane's latest good word. The response's
layout is the model's reading (log entry 16). -/
def Obligations.JamSetsHouseFromLane : Prop :=
  ∀ (l : LinkId) (lane : Byte) (s : State), s.takes l (.jam l lane) = true →
    (7 < lane.toNat → exec (.jam l lane) s = .next (s.answered l 0x04#8 (.no .badValue))) ∧
    ∀ i : LaneId, lane.toNat = i.val →
    (0 < s.tt.rollingCount → exec (.jam l lane) s = .next (s.answered l 0x04#8 (.no .rolling))) ∧
    (s.tt.rollingCount = 0 → (s.input i).settings.kind ≠ .timecode ∨ (s.input i).state ≠ .tracking →
      exec (.jam l lane) s = .next (s.answered l 0x04#8 (.no .notTracking))) ∧
    (∀ g f, s.tt.rollingCount = 0 → (s.input i).settings.kind = .timecode → (s.input i).state = .tracking →
      (s.input i).good = some g → g.fields = some f →
      (s.ratesMatch i = false → exec (.jam l lane) s = .next (s.answered l 0x04#8 (.no .rateMismatch))) ∧
      (s.ratesMatch i = true → g.tFrame < 0 → exec (.jam l lane) s = .next (s.answered l 0x04#8 (.no .range))) ∧
      (s.ratesMatch i = true → 0 ≤ g.tFrame →
        let tl : Timeline := ⟨(s.input i).settings.rate, (s.input i).settings.drop, g.tFrame.toNat, f.label⟩
        exec (.jam l lane) s = .next
          (({ s with tu := { s.tu with change := none } }.applyHouse tl .jam (some i)).answered l 0x04#8
            (.ok (timelineChars tl ++ [char (min 3 (s.tu.history.length + 1))])))))

/-- R51, R53, R54: UNJAM is refused ROLLING or EMPTY; accepted, the top of the history becomes the house timeline. SET AUTOJAM
stores its setting and jams nothing; an unknown code is refused BAD_VALUE. A trigger from the lane set jams from the lane's
latest good word with cause AUTOJAM where the lane is TIMECODE at the house rate code and drop mode, no take rolls and t_frame
is 0 or above; any other trigger is skipped. The response's layout is the model's reading (log entry 16). -/
def Obligations.UnjamAndAutojam : Prop :=
  ∀ (l : LinkId) (s : State),
    (s.takes l (.unjam l) = true →
      (0 < s.tt.rollingCount → exec (.unjam l) s = .next (s.answered l 0x05#8 (.no .rolling))) ∧
      (s.tt.rollingCount = 0 → s.tu.history = [] → exec (.unjam l) s = .next (s.answered l 0x05#8 (.no .empty))) ∧
      (∀ top rest, s.tt.rollingCount = 0 → s.tu.history = top :: rest → exec (.unjam l) s = .next
        (({ s with tu := { s.tu with history := rest } }.installHouse top .unjam none).answered l 0x05#8
          (.ok (timelineChars top ++ [char rest.length]))))) ∧
    (∀ v, s.takes l (.setAutojam l v) = true →
      (v = 0xFF#8 → exec (.setAutojam l v) s = .next
        ({ s with tu := { s.tu with autoJam := none } }.answered l 0x06#8 (.ok [v]))) ∧
      (∀ i : LaneId, v.toNat = i.val → exec (.setAutojam l v) s = .next
        ({ s with tu := { s.tu with autoJam := some i } }.answered l 0x06#8 (.ok [v]))) ∧
      (8 ≤ v.toNat → v ≠ 0xFF#8 → exec (.setAutojam l v) s = .next (s.answered l 0x06#8 (.no .badValue)))) ∧
    ∀ i : LaneId, let set := (s.input i).settings
      (∀ g f, s.tu.autoJam = some i → set.kind = .timecode → s.tt.rollingCount = 0 → set.rate = s.tu.house.rate → set.drop = s.tu.house.drop →
        (s.input i).good = some g → g.fields = some f → 0 ≤ g.tFrame →
        s.autoJamTrigger i =
          { s with tu := { s.tu with change := none } }.applyHouse ⟨set.rate, set.drop, g.tFrame.toNat, f.label⟩ .autojam (some i)) ∧
      (s.tu.autoJam ≠ some i ∨ set.kind ≠ .timecode ∨ 0 < s.tt.rollingCount ∨ set.rate ≠ s.tu.house.rate ∨ set.drop ≠ s.tu.house.drop ∨
          (s.input i).good = none ∨ (∃ g, (s.input i).good = some g ∧ (g.fields = none ∨ g.tFrame < 0)) →
        s.autoJamTrigger i = s)

/-! ### Input lanes -/

/-- R57, R58: a SET INPUT with a lane number above 7 or a field out of its codes is refused BAD_VALUE, and window, silence limit
and slip tolerance 0 are stored as 1. One that would change the kind, rate code, drop mode or role of a ROLLING take's lane is
refused LANE_BUSY; otherwise the lane, first taken SILENT under its old settings where it was not, is cleared to its start-up
values under the settings stored. The lane's characters in the response are in the order of R57 (log entry 16: the model's
reading). That a lane already SILENT hands the House Clock nothing is the model's reading (log entry 8). -/
def Obligations.SetInputClearsLane : Prop :=
  ∀ (l : LinkId) (lane kind rateClass drop role : Byte) (lead : BitVec 16) (window silence : Byte) (tolerance : BitVec 16) (s : State),
    s.takes l (.setInput l lane kind rateClass drop role lead window silence tolerance) = true →
    (7 < lane.toNat ∨ 2 < kind.toNat ∨ 9 < rateClass.toNat ∨ 1 < drop.toNat ∨ 3 < role.toNat ∨
        (drop = 1#8 ∧ rateClass ≠ 3#8 ∧ rateClass ≠ 8#8) →
      exec (.setInput l lane kind rateClass drop role lead window silence tolerance) s = .next (s.answered l 0x09#8 (.no .badValue))) ∧
    (∀ k r d ro, inKindOf kind = some k → rateOf rateClass = some r → switchOf drop = some d → roleOf role = some ro → dropFits r d = true →
      inSettingsOf kind rateClass drop role lead window silence tolerance =
        some ⟨k, r, d, ro, lead.toNat, max 1 window.toNat, max 1 silence.toNat, max 1 tolerance.toNat⟩) ∧
    ∀ (i : LaneId) (set : InSettings), lane.toNat = i.val →
    inSettingsOf kind rateClass drop role lead window silence tolerance = some set →
    let u := if (s.input i).state = .silent then s else s.goSilent i .setInput
    ((s.rollingTakeOf i).isSome = true → (s.input i).settings.changesLane set = true →
      exec (.setInput l lane kind rateClass drop role lead window silence tolerance) s =
        .next (s.answered l 0x09#8 (.no .laneBusy))) ∧
    ((s.rollingTakeOf i).isSome = false ∨ (s.input i).settings.changesLane set = false →
      exec (.setInput l lane kind rateClass drop role lead window silence tolerance) s = .next
        ((u.modInput i (fun _ => clearedInput set
          (if set.kind = .timecode then some (follow u.tu.house set.rate set.drop) else none))).answered l 0x09#8 (.ok set.chars))) ∧
    set.chars = [set.kind.code, char set.rate.cls, flagChar set.drop, set.role.code] ++ bytesOf 2 set.lead
      ++ [char set.window, char set.silence] ++ bytesOf 2 set.tolerance

/-- R79, R80: READ INPUT returns the lane's items and removes the lane from the requesting link's changed-lane set alone; a lane
number above 7 is refused BAD_VALUE. R162: STATUS returns its items as they stand, then empties the requesting link's
changed-lane set and clears its GAP flag; the other links and all other state are left as they are. READ INPUT's items are the
lane's settings, state, latest good word and latest word, levels, lock, rebaseline mark, last offset, windows, counters and
capture, each as the lane holds it. The order, widths and shared flag characters of the items and their codes (log entries 16 to
19), and the 0 sent for the word fields of a PULSE lane (log entry 35), are the model's readings. -/
def Obligations.ReadInputAndStatusClear : Prop :=
  (∀ (l : LinkId) (lane : Byte) (s : State), s.takes l (.readInput l lane) = true →
    (∀ i, laneOf lane = some i →
      exec (.readInput l lane) s = .next
        ((s.modLink l (fun p => { p with changed := p.changed &&& ~~~(1#8 <<< i.val) })).answered l 0x0A#8 (.ok (s.input i).items)) ∧
      (∀ j : LaneId, ((s.link l).changed &&& ~~~(1#8 <<< i.val)).getLsbD j.val = ((s.link l).changed.getLsbD j.val && !decide (j = i)))) ∧
    (8 ≤ lane.toNat → exec (.readInput l lane) s = .next (s.answered l 0x0A#8 (.no .badValue)))) ∧
  (∀ v : InLane, v.items =
    [v.settings.kind.code, char v.settings.rate.cls, flagChar v.settings.drop, v.settings.role.code] ++ bytesOf 2 v.settings.lead
      ++ [char v.settings.window, char v.settings.silence] ++ bytesOf 2 v.settings.tolerance
      ++ [v.state.code, char v.seeking] ++ bytesOf 2 v.missed ++ [char v.errorRun]
      ++ presentOr 22 (fun g : GoodArrival =>
        (match g.fields with
          | some f => labelChars f.label f.drop ++ [flagChar f.drop ||| (flagChar f.run <<< 1) ||| (flagChar f.clap <<< 2)]
              ++ bytesOf 3 f.user.toNat
          | none => List.replicate 9 0#8) ++ tickChars g.arrival ++ signedChars 7 g.tFrame) v.good
      ++ presentOr 7 (fun w : LatestWord => w.tag.code :: tickChars w.arrival) v.latest
      ++ [flagChar v.runLevel ||| (flagChar v.clapLevel <<< 1)] ++ presentOr 5 offsetChars v.lock ++ [flagChar v.rebaseline]
      ++ presentOr 5 offsetChars v.lastOffset ++ [char v.window.count]
      ++ presentOr 22 (fun w : PublishedWindow =>
        offsetChars w.low ++ offsetChars w.high ++ offsetChars w.mean ++ [char w.size] ++ tickChars w.tick) v.published
      ++ bytesOf 2 v.counters.good ++ bytesOf 2 v.counters.error ++ bytesOf 2 v.counters.missing
      ++ bytesOf 2 v.counters.discontinuity ++ bytesOf 2 v.counters.slip
      ++ [v.captureMode.code, char v.captured.length, flagChar v.overrun]) ∧
  ∀ (l : LinkId) (s : State), s.takes l (.status l) = true →
    exec (.status l) s = .next
      ((s.modLink l (fun p => { p with changed := 0#8, gap := false })).answered l 0x01#8
        (.ok (tickChars s.tick ++ [flagChar s.hc.full, s.hc.state.code, flagChar s.hc.limit ||| (flagChar s.hc.stale <<< 1),
          char s.tt.tableCount, char s.tt.openCount, char s.tt.rollingCount, flagChar s.tu.change.isSome, s.store.state.code,
          flagChar s.store.fault ||| (flagChar s.store.write.isSome <<< 1), flagChar (s.link l).gap, (s.link l).changed])))

/-- R76, R77, R78: CAPTURE clears OVERRUN, flushes the queue where asked, and sets the mode. PEEK removes up to `count` words
from the head of the queue and returns them; a count of 0 or above 4, a lane number above 7 and an unknown mode are refused
BAD_VALUE. An arrival offered under ONE or CONTINUOUS is appended where OVERRUN is clear and fewer than 4 words stand, and sets
OVERRUN where 4 stand; ONE then becomes OFF; under OFF, or while OVERRUN stands under CONTINUOUS, nothing is stored. A word is
sent as in 11.4: arrival tick, tag, and field bits with the CRC right-aligned in 8 characters. That bit 0 of the flush character
is the flag is the model's reading (log entry 25). -/
def Obligations.CaptureAndPeek : Prop :=
  (∀ (l : LinkId) (lane mode flush count : Byte) (s : State),
    (s.takes l (.capture l lane mode flush) = true → 7 < lane.toNat ∨ 2 < mode.toNat →
      exec (.capture l lane mode flush) s = .next (s.answered l 0x0B#8 (.no .badValue))) ∧
    (s.takes l (.peek l lane count) = true → 7 < lane.toNat →
      exec (.peek l lane count) s = .next (s.answered l 0x0C#8 (.no .badValue)))) ∧
  (∀ (v : InLane) (c : Captured),
    (v.captureMode = .off → v.offerCapture c = v) ∧
    (v.captureMode ≠ .off → v.overrun = false → v.captured.length < 4 → v.offerCapture c =
      { v with captured := v.captured ++ [c], captureMode := if v.captureMode = .one then .off else v.captureMode }) ∧
    (v.captureMode ≠ .off → v.overrun = false → 4 ≤ v.captured.length → v.offerCapture c =
      { v with overrun := true, captureMode := if v.captureMode = .one then .off else v.captureMode }) ∧
    (v.captureMode = .continuous → v.overrun = true → v.offerCapture c = v) ∧
    c.chars = tickChars c.arrival ++ [c.tag.code] ++ bytesOf 8 (c.bits.toNat * 256 + c.check.toNat)) ∧
  ∀ (l : LinkId) (lane : Byte) (s : State) (i : LaneId), lane.toNat = i.val →
    (∀ (mode flush : Byte) (m : CaptureMode), s.takes l (.capture l lane mode flush) = true → captureModeOf mode = some m →
      let kept := if flush.getLsbD 0 then [] else (s.input i).captured
      exec (.capture l lane mode flush) s = .next
        ((s.modInput i (fun v => { v with overrun := false, captured := kept, captureMode := m })).answered l 0x0B#8
          (.ok [m.code, char kept.length]))) ∧
    (∀ count : Byte, s.takes l (.peek l lane count) = true →
      (1 ≤ count.toNat → count.toNat ≤ 4 →
        let v := s.input i
        exec (.peek l lane count) s = .next
          ((s.modInput i (fun v => { v with captured := v.captured.drop count.toNat })).answered l 0x0C#8
            (.ok ([char (min count.toNat v.captured.length)] ++ (v.captured.take count.toNat).flatMap Captured.chars
              ++ [char (v.captured.length - count.toNat), v.captureMode.code, flagChar v.overrun])))) ∧
      (count.toNat = 0 ∨ 4 < count.toNat → exec (.peek l lane count) s = .next (s.answered l 0x0C#8 (.no .badValue))))

/-- R60, R64, R66, R67, R72, R77: what arrives on a lane that is not TIMECODE, or is not led by the sync pattern, has no effect.
An error word is offered to capture, recorded and counted; in SEEKING it breaks the run, in TRACKING it counts as a missed slot,
and the third in a row takes the lane to SEEKING. Whatever arrives on lane i, the store is unchanged, and another input lane can
only be re-derived and marked for rebaseline. -/
def Obligations.ErrorWordsAndFrames : Prop :=
  ∀ (i : LaneId) (w : FrameWord) (s : State),
    let v := s.input i
    let c : Captured := ⟨s.tick, judgeWord v.settings w, wordBits w, wordCheck w⟩
    let recorded (v : InLane) : InLane :=
      { (v.offerCapture c) with latest := some ⟨c.tag, s.tick⟩, counters := { v.counters with error := min 65535 (v.counters.error + 1) } }
    (v.settings.kind ≠ .timecode ∨ wordSync w ≠ 0x3F4#10 → exec (.wordArrival i w) s = .next s) ∧
    (v.settings.kind = .timecode → wordSync w = 0x3F4#10 → judgeWord v.settings w ≠ .good →
      (v.state = .silent → exec (.wordArrival i w) s = .next (s.modInput i recorded)) ∧
      (v.state = .seeking → exec (.wordArrival i w) s = .next (s.modInput i (fun v => { recorded v with seeking := 0 }))) ∧
      (v.state = .tracking → v.errorRun < 2 → exec (.wordArrival i w) s = .next
        (s.modInput i (fun v => { recorded v with missed := v.missed + 1, errorRun := v.errorRun + 1 }))) ∧
      (v.state = .tracking → 2 ≤ v.errorRun → exec (.wordArrival i w) s = .next
        (((s.modInput i (fun v => { recorded v with state := .seeking, seeking := 0, missed := 0, errorRun := 0, lock := none })).post
          (.laneState i .tracking .seeking .errors none)).markChanged i))) ∧
    (∀ t, exec (.wordArrival i w) s = .next t → t.store = s.store ∧ ∀ j, j ≠ i → ∃ e r win,
      t.input j = { s.input j with expected := e, rebaseline := r, window := win })

/-- R59, R60, R62 to R65, R68, R71, R72, R75, R77: a good word on a SILENT TIMECODE lane, and an edge on a SILENT PULSE lane, is
offered to capture, recorded with its arrival tick, frame start and offset and counted, reaches the House Clock as an edge, and
takes the lane to SEEKING with the seeking count at 1: one LANE_STATE notice with cause GOOD_WORD, and every link's changed-lane
set gains the lane. Nothing else changes, and the House Clock only where the lane is its source. The good word that brings the
count to 4, its label one after the last good word's, takes the lane to TRACKING with its own offset as lock offset. An edge on
a lane that is not PULSE has no effect. An offset is added to the current statistics window; the one that brings its count to W
publishes minimum, maximum, mean and tick and empties it. That the record and the statistics come before the tracking rules is
the model's reading (log entry 12). -/
def Obligations.GoodArrivalsAdvanceTracking : Prop :=
  ∀ (i : LaneId) (s : State),
    let v := s.input i
    let tFrame : Int := (s.tick : Int) - v.settings.lead
    let sought (c : Captured) (g : GoodArrival) (off : Int) : State :=
      ((((s.modInput i (fun v =>
        { (v.offerCapture c).addOffset off s.tick with
          latest := some ⟨.good, s.tick⟩
          good := some g
          counters := { v.counters with good := min 65535 (v.counters.good + 1) } })).laneEdge i).modInput i (fun v =>
        { v with state := .seeking, seeking := 1 })).post (.laneState i .silent .seeking .goodWord none)).markChanged i
    let seeks (t : State) (g : GoodArrival) (off : Int) : Prop :=
      (t.input i).state = .seeking ∧ (t.input i).seeking = 1 ∧ (t.input i).good = some g ∧ (t.input i).latest = some ⟨.good, s.tick⟩ ∧
      (t.input i).lastOffset = some off ∧
      (t.input i).window = (v.addOffset off s.tick).window ∧ (t.input i).published = (v.addOffset off s.tick).published ∧
      (t.input i).counters.good = min 65535 (v.counters.good + 1) ∧
      (t.input i).settings = v.settings ∧ (t.input i).lock = v.lock ∧ (∀ j, j ≠ i → t.input j = s.input j) ∧
      (∀ k, (t.link k).changed.getLsbD i.val = true) ∧ (s.hc.source ≠ .lane i → t.hc = s.hc) ∧ t.hc = (s.laneEdge i).hc ∧
      t.tu = s.tu ∧ t.outputs = s.outputs ∧ t.tt = s.tt ∧ t.su = s.su ∧ t.store = s.store ∧ t.pending = s.pending
    (∀ off arrival, let win := v.window
      let low := if win.count = 0 then off else min win.low off
      let high := if win.count = 0 then off else max win.high off
      let sum := if win.count = 0 then off else win.sum + off
      (win.count + 1 < v.settings.window → v.addOffset off arrival =
        { v with lastOffset := some off, window := ⟨win.count + 1, sum, low, high⟩ }) ∧
      (v.settings.window ≤ win.count + 1 → v.addOffset off arrival =
        { v with
          lastOffset := some off
          window := ⟨0, 0, 0, 0⟩
          published := some ⟨low, high, sum / (v.settings.window : Int), v.settings.window, arrival⟩ })) ∧
    (v.settings.kind ≠ .pulse → exec (.pulseEdge i) s = .next s) ∧
    (v.settings.kind = .pulse → v.state = .silent →
      let g : GoodArrival := ⟨s.tick, tFrame, none, 0⟩
      let off := edgeOffset v.settings.rate.period tFrame
      let t := sought ⟨s.tick, .good, 0#54, 0#8⟩ g off
      exec (.pulseEdge i) s = .next t ∧ seeks t g off) ∧
    (∀ w tl, v.settings.kind = .timecode → wordSync w = 0x3F4#10 → judgeWord v.settings w = .good → v.expected = some tl →
      let f := fieldsOfBits (wordBits w)
      let n := frameNumber v.settings.rate v.settings.drop f.label
      (v.state = .silent →
        let g : GoodArrival := ⟨s.tick, tFrame, some f, n⟩
        let off := wordOffset tl n tFrame
        let t := sought ⟨s.tick, .good, wordBits w, wordCheck w⟩ g off
        exec (.wordArrival i w) s = .next t ∧ seeks t g off) ∧
      (∀ g, v.state = .seeking → v.seeking = 3 → v.good = some g → n = (g.frameNo + 1) % framesPerDay v.settings.rate v.settings.drop →
        ∃ t, exec (.wordArrival i w) s = .next t ∧ (t.input i).state = .tracking ∧ (t.input i).seeking = 4 ∧ (t.input i).missed = 0 ∧
          (t.input i).errorRun = 0 ∧ (t.input i).lock = some (wordOffset tl n tFrame) ∧
          (t.input i).good = some ⟨s.tick, tFrame, some f, n⟩ ∧ (∀ k, (t.link k).changed.getLsbD i.val = true) ∧ t.store = s.store))

/-- R60, R64 to R68, R71, R72, R75, R77: what a good word or an edge does on a lane in SEEKING or TRACKING. It is offered to
capture, recorded and counted, its offset enters the statistics, and its edge reaches the House Clock. In SEEKING one after the
previous raises the seeking count, another, or one after an error word, starts it at 1, and the fourth in a row enters TRACKING:
LANE_STATE, the auto-jam trigger, then the flags. In TRACKING one in the slot that the missed run expects continues the lock: it
is judged for slip, then its flags are taken; any other is a discontinuity. A PULSE edge lies in its slot within q = floor(P/8),
and has no flags. That the record and the statistics come before the tracking rules, so that an auto-jam empties the window that
holds the word, is the model's reading (log entry 12), and so is the SLIP stamp raised to 0 (log entry 25). -/
def Obligations.GoodArrivalsContinueTracking : Prop :=
  ∀ (i : LaneId) (s : State),
    let v := s.input i
    let period := v.settings.rate.period
    let tFrame : Int := (s.tick : Int) - v.settings.lead
    let recorded (c : Captured) (g : GoodArrival) (off : Int) (f : InLane → InLane) : State :=
      ((s.modInput i (fun v =>
        { (v.offerCapture c).addOffset off s.tick with
          latest := some ⟨.good, s.tick⟩
          good := some g
          counters := { v.counters with good := min 65535 (v.counters.good + 1) } })).laneEdge i).modInput i f
    let entered (c : Captured) (g : GoodArrival) (off : Int) : State :=
      (((recorded c g off (fun v =>
        { v with state := .tracking, seeking := 4, missed := 0, errorRun := 0, lock := some off, rebaseline := false })).post
          (.laneState i .seeking .tracking .runComplete (some off))).markChanged i).autoJamTrigger i
    let continued (c : Captured) (g : GoodArrival) (off : Int) : State :=
      (recorded c g off (fun v => { v with missed := 0, errorRun := 0 })).judgeSlip i off tFrame.toNat
    let broken (c : Captured) (g : GoodArrival) (off : Int) : State :=
      ((recorded c g off (fun v =>
        { v with
          state := .seeking
          seeking := 1
          missed := 0
          errorRun := 0
          lock := none
          counters := { v.counters with discontinuity := min 65535 (v.counters.discontinuity + 1) } })).post
        (.laneState i .tracking .seeking .discontinuity none)).markChanged i
    (∀ w tl p, v.settings.kind = .timecode → wordSync w = 0x3F4#10 → judgeWord v.settings w = .good → v.expected = some tl → v.good = some p →
      let f := fieldsOfBits (wordBits w)
      let n := frameNumber v.settings.rate v.settings.drop f.label
      let after (j : Nat) : Nat := (p.frameNo + j) % framesPerDay v.settings.rate v.settings.drop
      let c : Captured := ⟨s.tick, .good, wordBits w, wordCheck w⟩
      let g : GoodArrival := ⟨s.tick, tFrame, some f, n⟩
      let off := wordOffset tl n tFrame
      let flags (x : State) (entry : Bool) : State := (x.takeRunFlag i f.run entry tFrame.toNat).takeClapFlag i f.clap entry tFrame.toNat
      (v.state = .seeking → v.seeking = 0 ∨ n ≠ after 1 → exec (.wordArrival i w) s = .next (recorded c g off (fun v => { v with seeking := 1 }))) ∧
      (v.state = .seeking → 0 < v.seeking → v.seeking < 3 → n = after 1 →
        exec (.wordArrival i w) s = .next (recorded c g off (fun u => { u with seeking := v.seeking + 1 }))) ∧
      (v.state = .seeking → 3 ≤ v.seeking → n = after 1 → exec (.wordArrival i w) s = .next (flags (entered c g off) true)) ∧
      (v.state = .tracking → n = after (1 + v.missed) → exec (.wordArrival i w) s = .next (flags (continued c g off) false)) ∧
      (v.state = .tracking → n ≠ after (1 + v.missed) → exec (.wordArrival i w) s = .next (broken c g off))) ∧
    (∀ p, v.settings.kind = .pulse → v.good = some p →
      let slot (j : Nat) : Prop := ((j * period : Nat) : Int) - (period / 8 : Nat) ≤ tFrame - p.tFrame ∧
        tFrame - p.tFrame ≤ ((j * period : Nat) : Int) + (period / 8 : Nat)
      let c : Captured := ⟨s.tick, .good, 0#54, 0#8⟩
      let g : GoodArrival := ⟨s.tick, tFrame, none, 0⟩
      let off := edgeOffset period tFrame
      (v.state = .seeking → v.seeking = 0 ∨ ¬ slot 1 → exec (.pulseEdge i) s = .next (recorded c g off (fun v => { v with seeking := 1 }))) ∧
      (v.state = .seeking → 0 < v.seeking → v.seeking < 3 → slot 1 →
        exec (.pulseEdge i) s = .next (recorded c g off (fun u => { u with seeking := v.seeking + 1 }))) ∧
      (v.state = .seeking → 3 ≤ v.seeking → slot 1 → exec (.pulseEdge i) s = .next (entered c g off)) ∧
      (v.state = .tracking → slot (1 + v.missed) → exec (.pulseEdge i) s = .next (continued c g off)) ∧
      (v.state = .tracking → ¬ slot (1 + v.missed) → exec (.pulseEdge i) s = .next (broken c g off)))

/-- R70, R73, R74, R129, R146: what a word or edge that continues the lock, and the flags of a word taken in TRACKING, hand on.
With the rebaseline mark, or no lock offset, the offset becomes the lock offset; within the tolerance nothing is done; beyond it
a SLIP raises the counter, triggers the auto-jam, reaches the Take Table from a CAMERA or SOUND lane, is reported, and its
offset becomes the lock offset. Run flag 1 while the run level is 0, or on the entering word, is a RUN_START and run flag 0
while the level is 1 a RUN_STOP under a CAMERA or SOUND role; clap flag 1 while the clap level is 0 is a clap under the role
SLATE, but not on the entering word. The levels take the flags. A lane clap under HOUSE_FULL is stamped the maximum (log entry
26: the model's reading). The order inside a SLIP is the model's reading too (log entry 12); the stamp it is judged with is the
one of log entry 25. -/
def Obligations.SlipRunAndClapFlags : Prop :=
  ∀ (i : LaneId) (s : State) (stamp : Nat),
    let v := s.input i
    let unit : Prop := v.settings.role = .camera ∨ v.settings.role = .sound
    (∀ off : Int,
      (v.rebaseline = true ∨ v.lock = none → s.judgeSlip i off stamp = s.modInput i (fun v => { v with lock := some off, rebaseline := false })) ∧
      (∀ k, v.rebaseline = false → v.lock = some k →
        ((off - k).natAbs ≤ v.settings.tolerance → s.judgeSlip i off stamp = s) ∧
        (v.settings.tolerance < (off - k).natAbs →
          let n := min 65535 (v.counters.slip + 1)
          let x := (s.modInput i (fun v => { v with counters := { v.counters with slip := n } })).autoJamTrigger i
          let y := if v.settings.role = .camera ∨ v.settings.role = .sound then x.takeSlip i stamp else x
          s.judgeSlip i off stamp =
            ((y.post (.slip i stamp off k n)).markChanged i).modInput i (fun v => { v with lock := some off })))) ∧
    (∀ entry : Bool,
      (unit → entry = true ∨ v.runLevel = false →
        s.takeRunFlag i true entry stamp = (s.runStart i stamp).modInput i (fun v => { v with runLevel := true })) ∧
      (unit → v.runLevel = true → s.takeRunFlag i false entry stamp = (s.runStop i stamp).modInput i (fun v => { v with runLevel := false })) ∧
      (∀ run, ¬ unit ∨ (entry = false ∧ run = v.runLevel) ∨ (run = false ∧ v.runLevel = false) →
        s.takeRunFlag i run entry stamp = s.modInput i (fun v => { v with runLevel := run }))) ∧
    (∀ clap entry : Bool,
      (v.settings.role ≠ .slate ∨ clap = false ∨ v.clapLevel = true ∨ entry = true →
        s.takeClapFlag i clap entry stamp = s.modInput i (fun v => { v with clapLevel := clap })) ∧
      (v.settings.role = .slate → v.clapLevel = false →
        let at_ := if s.hc.full = true then 281474976710655 else stamp
        ((∃ r, s.su.lockout = some r ∧ ((at_ : Int) - r).natAbs < 144000) →
          s.takeClapFlag i true false stamp = s.modInput i (fun v => { v with clapLevel := true })) ∧
        ((∀ r, s.su.lockout = some r → 144000 ≤ ((at_ : Int) - r).natAbs) →
          s.takeClapFlag i true false stamp = (s.acceptClap at_ (.lane i)).1.modInput i (fun v => { v with clapLevel := true }))))

/-- R66, R69, R72, R73, R75: a missing expiry that is due raises the missed run and the missing counter. A silence expiry that
is due takes the lane SILENT with its run level, clap level and lock cleared, reports it, and hands it to the House Clock as
gone SILENT; with the run level at 1 under a CAMERA or SOUND role a DROPOUT is handed first, stamped with the smaller of the
frame after the latest good word and the tick. A lane that SET INPUT takes SILENT does the same with its own cause. An expiry
that is not due has no effect (log entry 4: the model's choice). The DROPOUT reaches the Take Table before its notice (log entry
12: the model's reading of R75). -/
def Obligations.MissingAndSilenceExpiries : Prop :=
  ∀ (i : LaneId) (s : State), let v := s.input i
    let silent (cause : LaneCause) : State :=
      let u := if v.runLevel = true ∧ (v.settings.role = .camera ∨ v.settings.role = .sound) then
          ((s.takeDropout i (v.dropoutStamp s.tick)).post (.dropout i (v.dropoutStamp s.tick) v.settings.role)).markChanged i
        else s
      (((u.modInput i (fun v =>
        { v with state := .silent, seeking := 0, missed := 0, errorRun := 0, lock := none, runLevel := false, clapLevel := false })).post
          (.laneState i v.state .silent cause none)).markChanged i).laneSilent i
    (∀ g, s.hc.full = false → v.state = .tracking → v.good = some g →
      g.arrival + (1 + v.missed) * v.settings.rate.period + v.settings.rate.period / 2 < s.tick →
      exec (.missingExpiry i) s = .next (s.modInput i (fun v =>
        { v with missed := v.missed + 1, counters := { v.counters with missing := min 65535 (v.counters.missing + 1) } }))) ∧
    (s.missingDue i = false → exec (.missingExpiry i) s = .next s) ∧
    (∀ g, v.good = some g → v.dropoutStamp s.tick = (min (g.tFrame + v.settings.rate.period) s.tick).toNat) ∧
    (∀ a, v.state ≠ .silent → v.latest = some a → a.arrival + v.settings.silence * v.settings.rate.period ≤ s.tick →
      exec (.silenceExpiry i) s = .next (silent .silence)) ∧
    (∀ cause, s.goSilent i cause = silent cause) ∧
    (s.silenceDue i = false → exec (.silenceExpiry i) s = .next s)

/-! ### Output lanes -/

/-- R83 to R85: an accepted SET OUTPUT cuts the lane to the idle level. OFF is in force at once; a configuration whose effect
boundary is the tick taken is in force and RUNNING at once; any other waits for its boundary. The effect boundary is r for OFF
and WORDCLOCK, whose phase origin is r; P × ceil(r/P) for PULSE; r + ((o − r) mod P) for TIMECODE, o the origin tick of its own
or derived timeline. A PULSE rate is a rate class 0 to 9 or a custom B of 1 to 120 that divides 720,000, with placement stored
at most P − 1 and duration 1 to P − 1; drop mode is off or on, on only with class 3 or 8; a TIMECODE lane FOLLOWs or has an OWN
origin tick and valid label, and sends a CONSTANT or TAKE; a WORDCLOCK lane has a sample rate 0 to 3 and a pull 0 to 2. A code
outside its values, a lane above 7, an unknown kind and a length that does not match the kind (R183) are refused BAD_VALUE. The
response's layout is the model's reading (log entries 16 and 35). -/
def Obligations.SetOutputCutsLane : Prop :=
  (∀ (l : LinkId) (lane kind : Byte) (fields : OutputFields) (s : State), s.takes l (.setOutput l lane kind fields) = true →
    (∀ (o : LaneId) (c : OutConfig), lane.toNat = o.val → outConfigOf kind fields = some c →
      let su := setupOf s.tu.house s.tick c
      let b := su.effectBoundary s.tick
      let v : OutLane :=
        if c = .off then ⟨.off, some su, none, none, 0, none, none, false⟩
        else if b = s.tick then ⟨.running, some su, none, some b, 0, none, none, false⟩
        else ⟨.waiting, (s.output o).inForce, some su, some b, 0, none, none, false⟩
      exec (.setOutput l lane kind fields) s = .next
        ((s.modOutput o (fun _ => v)).answered l 0x0D#8 (.ok (su.chars ++ bytesOf 7 b ++ [v.state.code])))) ∧
    (7 < lane.toNat ∨ outConfigOf kind fields = none → exec (.setOutput l lane kind fields) s =
      .next (s.answered l 0x0D#8 (.no .badValue)))) ∧
  (∀ (house : Timeline) (r : Nat),
    setupOf house r .off = ⟨.off, none, 0⟩ ∧
    (∀ rate d pl du, setupOf house r (.pulse rate d pl du) = ⟨.pulse rate d pl du, none, 0⟩) ∧
    (∀ rate d u, setupOf house r (.timecode rate d .follow u) = ⟨.timecode rate d .follow u, some (follow house rate d), 0⟩) ∧
    (∀ rate d o lab u, setupOf house r (.timecode rate d (.own o lab) u) =
      ⟨.timecode rate d (.own o lab) u, some ⟨rate, d, o, lab⟩, 0⟩) ∧
    (∀ sr q, setupOf house r (.wordclock sr q) = ⟨.wordclock sr q, none, r⟩)) ∧
  (∀ (r ph : Nat) (line : Option Timeline),
    (OutSetup.mk .off line ph).effectBoundary r = r ∧
    (∀ sr q, (OutSetup.mk (.wordclock sr q) line ph).effectBoundary r = r) ∧
    (∀ k d pl du, (OutSetup.mk (.pulse (.code k) d pl du) line ph).effectBoundary r = k.period * ((r + (k.period - 1)) / k.period)) ∧
    (∀ b d pl du, (OutSetup.mk (.pulse (.custom b) d pl du) line ph).effectBoundary r =
      720000 / b * ((r + (720000 / b - 1)) / (720000 / b))) ∧
    (∀ k d tls u tl, line = some tl → (OutSetup.mk (.timecode k d tls u) line ph).effectBoundary r =
      r + (((tl.origin : Int) - r) % (tl.rate.period : Int)).toNat)) ∧
  (∀ (form rate drop : Byte) (pl du : BitVec 24), let c := outConfigOf 1#8 (.pulse form rate drop pl du)
    (∀ k, form = 0#8 → rateOf rate = some k → drop = 0#8 ∨ (drop = 1#8 ∧ (rate = 3#8 ∨ rate = 8#8)) →
      c = some (.pulse (.code k) (decide (drop = 1#8)) (min pl.toNat (k.period - 1)) (max 1 (min du.toNat (k.period - 1))))) ∧
    (form = 1#8 → 1 ≤ rate.toNat → rate.toNat ≤ 120 → 720000 % rate.toNat = 0 → drop = 0#8 → let p := 720000 / rate.toNat
      c = some (.pulse (.custom rate.toNat) false (min pl.toNat (p - 1)) (max 1 (min du.toNat (p - 1))))) ∧
    (1 < form.toNat ∨ 1 < drop.toNat ∨ (form = 0#8 ∧ (9 < rate.toNat ∨ (drop = 1#8 ∧ rate ≠ 3#8 ∧ rate ≠ 8#8))) ∨
      (form = 1#8 ∧ (rate = 0#8 ∨ 120 < rate.toNat ∨ 720000 % rate.toNat ≠ 0 ∨ drop = 1#8)) → c = none)) ∧
  (∀ (cls timeline user : Byte) (origin : BitVec 48) (label : LabelField) (value : BitVec 24),
    let c := outConfigOf 2#8 (.timecode cls timeline origin label user value)
    let d := decide (label.flags = 1#8)
    let lab : Label := ⟨label.hh.toNat, label.mm.toNat, label.ss.toNat, label.ff.toNat⟩
    (∀ k u, rateOf cls = some k → label.flags = 0#8 ∨ (label.flags = 1#8 ∧ (cls = 3#8 ∨ cls = 8#8)) →
      (user = 0#8 ∧ u = .constant value) ∨ (user = 1#8 ∧ u = .take) →
      (timeline = 0#8 → c = some (.timecode k d .follow u)) ∧
      (timeline = 1#8 → labelValid k d lab = true → c = some (.timecode k d (.own origin.toNat lab) u)) ∧
      (timeline = 1#8 → labelValid k d lab = false → c = none)) ∧
    (9 < cls.toNat ∨ 1 < label.flags.toNat ∨ (label.flags = 1#8 ∧ cls ≠ 3#8 ∧ cls ≠ 8#8) ∨ 1 < timeline.toNat ∨ 1 < user.toNat →
      c = none)) ∧
  (∀ sampleRate pull : Byte, let c := outConfigOf 3#8 (.wordclock sampleRate pull)
    (∀ sr q, sampleRateOf sampleRate = some sr → pullOf pull = some q → c = some (.wordclock sr q)) ∧
    (3 < sampleRate.toNat ∨ 2 < pull.toNat → c = none)) ∧
  outConfigOf 0#8 .bare = some .off ∧
  (∀ (kind : Byte) (f : OutputFields), (kind = 0#8 → f ≠ .bare) → (kind = 1#8 → ∀ a b d pl du, f ≠ .pulse a b d pl du) →
    (kind = 2#8 → ∀ a b o lab u x, f ≠ .timecode a b o lab u x) → (kind = 3#8 → ∀ a b, f ≠ .wordclock a b) → outConfigOf kind f = none) ∧
  [0#8, 1#8, 2#8, 3#8].map sampleRateOf = [some .s44, some .s48, some .s88, some .s96] ∧
  [0#8, 1#8, 2#8].map pullOf = [some .straight, some .up, some .down] ∧
  [0#8, 1#8, 2#8, 3#8, 4#8, 5#8, 6#8, 7#8, 8#8, 9#8].map rateOf =
    [some .f23, some .f24, some .f25, some .f29, some .f30, some .f47, some .f48, some .f50, some .f59, some .f60] ∧
  [RateCode.f23, .f24, .f25, .f29, .f30, .f47, .f48, .f50, .f59, .f60].map RateCode.period =
    [30030, 30000, 28800, 24024, 24000, 15015, 15000, 14400, 12012, 12000]

/-- R85, R86: an effect boundary that is due brings the pending configuration into force; a pulse starts at frame start plus
placement and ends at frame start plus placement plus duration. R94: at the start of sample unit k a RUNNING WORDCLOCK lane's
line rises, to fall at the first tick at or after the middle of the unit, and its next boundary is the start of unit k + 1. An
event that is not due has no effect (log entry 4: the model's choice). That the first pulse is an event of its own at the
boundary is the model's reading (log entry 10). -/
def Obligations.EffectBoundaryPulsesAndEdges : Prop :=
  (∀ (o : LaneId) (s : State), let v := s.output o
    (∀ b, s.hc.full = false → v.state = .waiting → v.nextBoundary = some b → b ≤ s.tick → exec (.effectBoundary o) s = .next
      (s.modOutput o (fun v => { v with state := .running, inForce := v.waiting, waiting := none, unitIndex := 0 }))) ∧
    (s.effectDue o = false → exec (.effectBoundary o) s = .next s) ∧
    (∀ rate drop placement duration tl phase, v.state = .running → v.inForce = some ⟨.pulse rate drop placement duration, tl, phase⟩ →
      s.hc.full = false →
      (∀ b, v.nextBoundary = some b → b + placement ≤ s.tick → exec (.pulseStart o) s = .next
        (s.modOutput o (fun v => { v with highUntil := some (b + placement + duration), nextBoundary := some (b + rate.period) }))) ∧
      (∀ e, v.highUntil = some e → e ≤ s.tick → exec (.pulseEnd o) s = .next (s.modOutput o (fun v => { v with highUntil := none })))) ∧
    (s.pulseStartDue o = false → exec (.pulseStart o) s = .next s) ∧ (s.pulseEndDue o = false → exec (.pulseEnd o) s = .next s)) ∧
  (∀ (o : LaneId) (s : State), let v := s.output o
    (∀ sr p tl phase, v.state = .running → v.inForce = some ⟨.wordclock sr p, tl, phase⟩ → s.hc.full = false →
      let st := audioStream sr p phase
      (∀ b, v.nextBoundary = some b → b ≤ s.tick → exec (.wordclockRise o) s = .next
        (s.modOutput o (fun v =>
          { v with
            highUntil := some (phase + ceilDiv ((2 * v.unitIndex + 1) * st.ticks) (2 * st.units))
            unitIndex := v.unitIndex + 1
            nextBoundary := some (phase + ceilDiv ((v.unitIndex + 1) * st.ticks) st.units) }))) ∧
      (∀ e, v.highUntil = some e → e ≤ s.tick → exec (.wordclockFall o) s = .next
        (s.modOutput o (fun v => { v with highUntil := none })))) ∧
    (s.riseDue o = false → exec (.wordclockRise o) s = .next s) ∧ (s.fallDue o = false → exec (.wordclockFall o) s = .next s))

/-- R88 to R92: at a frame boundary b a RUNNING TIMECODE lane composes the word of the frame starting at b + P: its label, run 1
while any take rolls, clap from the indication, which is then cleared, and the user field of its source. A composition that is
not due has no effect (log entry 4: the model's choice). -/
def Obligations.WordComposedAtBoundary : Prop :=
  ∀ (o : LaneId) (s : State), let v := s.output o
    (∀ r d t u tl phase b, s.hc.full = false → v.state = .running → v.inForce = some ⟨.timecode r d t u, some tl, phase⟩ →
      v.nextBoundary = some b → b ≤ s.tick →
      let f : WordFields :=
        { label := tl.labelAt ((b + tl.rate.period : Nat) : Int)
          drop := tl.drop
          run := decide (0 < s.tt.rollingCount)
          clap := v.clapped
          rateClass := tl.rate.cls
          user := match u with
            | .constant x => x
            | .take =>
              match s.slateTake with
              | some k => if k.state = .rolling then BitVec.ofNat 24 k.id else 0#24
              | none => 0#24 }
      exec (.wordComposition o) s = .next (s.modOutput o (fun v =>
        { v with
          word := some ⟨f, crc8 (bitsOfFields f), b + tl.rate.period⟩
          clapped := false
          nextBoundary := some (b + tl.rate.period) }))) ∧
    (s.compositionDue o = false → exec (.wordComposition o) s = .next s)

/-! ### Take table -/

/-- R101 to R104: ARM is refused BAD_VALUE, BAD_PARTICIPANT, DUPLICATE, OPEN_FULL or TABLE_FULL, in that order. Accepted, it
appends an ARMED record under the id given, after evicting the oldest collected CLOSED take where the table is full, raises the
counts, and reports it. A scene or shot is the characters before a tail of 0x00, each of A–Z, 0–9, '-' and '.' (R98, R183); the
participants are the lanes 0 to 7 of the first 1 to 8 slots. The id given is the first, counting upward from the next-id counter
and wrapping from 65,535 to 1, that no record holds. -/
def Obligations.ArmAppendsRecord : Prop :=
  (∀ (l : LinkId) (scene shot : List Byte) (number : BitVec 16) (flags count : Byte) (slots : List Byte) (s : State),
    scene.length = 8 → shot.length = 4 → slots.length = 8 →
    s.takes l (.arm l scene shot number flags count slots) = true →
    let refused (code : RefusalCode) : Prop :=
      exec (.arm l scene shot number flags count slots) s = .next (s.answered l 0x0F#8 (.no code))
    (textOf scene = none ∨ textOf scene = some [] ∨ textOf shot = none ∨ participantsOf count slots = none ∨ number.toNat = 0 ∨
      999 < number.toNat ∨ 3 < flags.toNat → refused .badValue) ∧
    ∀ (sc sh : List Byte) (lanes : List LaneId),
      textOf scene = some sc → textOf shot = some sh → participantsOf count slots = some lanes →
      sc ≠ [] → 1 ≤ number.toNat → number.toNat ≤ 999 → flags.toNat ≤ 3 →
      let fits : Prop := lanes.Nodup ∧ ∀ i, i ∈ lanes → (s.input i).settings.kind = .timecode ∧
        ((s.input i).settings.role = .camera ∨ (s.input i).settings.role = .sound)
      let held (t : Take) : Prop := t.state ≠ .closed ∧ t.scene = sc ∧ t.shot = sh ∧ t.number = number.toNat
      let out : Option Take := if s.tt.tableCount = 64 then s.tt.takes.find? (fun t : Take => t.state == .closed && t.collected != 0#4) else none
      (¬ fits → refused .badParticipant) ∧
      (fits → (∃ t : Take, t ∈ s.tt.takes ∧ held t) → refused .duplicate) ∧
      (fits → (∀ t : Take, t ∈ s.tt.takes → ¬ held t) →
        (s.tt.openCount = 8 → refused .openFull) ∧
        (s.tt.openCount ≠ 8 → s.tt.tableCount = 64 → out = none → refused .tableFull) ∧
        (s.tt.openCount ≠ 8 → (s.tt.tableCount = 64 → out ≠ none) →
          let pointerGone (id : Nat) : SlateUnit := { s.su with pointer := if s.su.pointer = .take id then .auto else s.su.pointer }
          let u : State := match out with
            | some t =>
              { s with
                tt :=
                  { s.tt with
                    takes := s.tt.takes.filter (fun k : Take => k.id ≠ t.id)
                    tableCount := s.tt.tableCount - 1
                    rollOrder := s.tt.rollOrder.filter (· ≠ t.id) }
                su := pointerGone t.id }.post
                  (.takeState t.id (some .closed) none .evict (.link l) t.start t.endTick)
            | none => s
          let id := u.tt.giveId
          let t : Take :=
            { id := id, scene := sc, shot := sh, number := number.toNat, state := .armed, arming := l
              participants := lanes.map (fun i => ⟨i, none, false, false, 0⟩), autoRoll := flags.getLsbD 0, autoCut := flags.getLsbD 1
              start := none, clap := none, endTick := none, marks := [], marksFull := false, rating := .unrated, collected := 0#4 }
          exec (.arm l scene shot number flags count slots) s = .next
            (({ u with tt :=
                { u.tt with
                  takes := u.tt.takes ++ [t]
                  nextId := if id = 65535 then 1 else id + 1
                  tableCount := u.tt.tableCount + 1
                  openCount := u.tt.openCount + 1 } }.post (.takeState id none (some .armed) .arm (.link l) none none)).answered l 0x0F#8
              (.ok (bytesOf 2 id ++ presentOr 2 (bytesOf 2) (out.map Take.id))))))) ∧
  (∀ cs text : List Byte, textOf cs = some text ↔
    (∃ n, cs = text ++ List.replicate n 0#8) ∧ ∀ c, c ∈ text → (0x41 ≤ c.toNat ∧ c.toNat ≤ 0x5A) ∨ (0x30 ≤ c.toNat ∧ c.toNat ≤ 0x39) ∨
      c = 0x2D#8 ∨ c = 0x2E#8) ∧
  (∀ (count : Byte) (slots : List Byte) (lanes : List LaneId), participantsOf count slots = some lanes ↔
    1 ≤ count.toNat ∧ count.toNat ≤ 8 ∧ (slots.take count.toNat).map BitVec.toNat = lanes.map Fin.val) ∧
  ∀ tt : TakeTable, 1 ≤ tt.nextId → tt.nextId ≤ 65535 → tt.takes.length < 65535 →
    let candidate (j : Nat) : Nat := (tt.nextId - 1 + j) % 65535 + 1
    let taken (id : Nat) : Prop := ∃ t : Take, t ∈ tt.takes ∧ t.id = id
    ∃ k, k ≤ tt.takes.length ∧ tt.giveId = candidate k ∧ ¬ taken (candidate k) ∧ ∀ j, j < k → taken (candidate j)

/-- R105, R106: ROLL is refused NO_TAKE, WRONG_STATE, ROLL_LIMIT or LANE_BUSY, in that order; accepted, the take is ROLLING with
the current tick as start and its participants' roll tags and run-seen flags from their lanes, the rolling count rises, and the
take joins the tail of the roll-order list. The take state a refusal carries stands beside its frame (log entry 7: the model's
reading). -/
def Obligations.RollStartsTake : Prop :=
  ∀ (l : LinkId) (id : BitVec 16) (s : State), s.takes l (.roll l id) = true →
    (s.take? id.toNat = none → exec (.roll l id) s = .next (s.answered l 0x10#8 (.no .noTake))) ∧
    ∀ t : Take, s.take? id.toNat = some t →
      (t.state ≠ .armed → exec (.roll l id) s = .next (s.answered l 0x10#8 (.refused .wrongState (some t.state)))) ∧
      (t.state = .armed → s.tt.rollingCount = 4 → exec (.roll l id) s = .next (s.answered l 0x10#8 (.no .rollLimit))) ∧
      (t.state = .armed → s.tt.rollingCount ≠ 4 → s.lanesBusy t = true →
        exec (.roll l id) s = .next (s.answered l 0x10#8 (.no .laneBusy))) ∧
      (t.state = .armed → s.tt.rollingCount ≠ 4 → s.lanesBusy t = false →
        let parts := t.participants.map (fun p : Participant =>
          { p with
            rollTag :=
              if (s.input p.lane).settings.kind = .timecode ∧ (s.input p.lane).state = .tracking then
                ((s.input p.lane).good.bind GoodArrival.fields).map WordFields.user
              else none
            runSeen := p.runSeen || ((s.input p.lane).state == .tracking && (s.input p.lane).runLevel &&
              ((s.input p.lane).settings.role == .camera || (s.input p.lane).settings.role == .sound)) })
        exec (.roll l id) s = .next
          (({ s with tt :=
              { s.tt with
                takes := s.tt.takes.map (fun k : Take =>
                  if k.id = id.toNat then { t with state := .rolling, start := some s.tick, participants := parts } else k)
                rollingCount := s.tt.rollingCount + 1
                rollOrder := s.tt.rollOrder ++ [id.toNat] } }.post
            (.takeState id.toNat (some .armed) (some .rolling) .roll (.link l) (some s.tick) t.endTick)).answered l 0x10#8
            (.ok (tickChars s.tick))))

/-- R107, R108, R46: CUT is refused NO_TAKE or WRONG_STATE; accepted, the take is CUT with the current tick as end and the
rolling count falls; where it falls to 0, a change that came with NOW, fell due or has its origin reached is applied with cause
DEFERRED, and another waits on; a rolling count brought to 0 by an auto-cut is handed to the Timeline Unit the same way. That a
change held with NOW is due whatever its origin tick is the model's reading (log entry 9), as is the take state a refusal
carries beside its frame (log entry 7). -/
def Obligations.CutEndsTake : Prop :=
  (∀ s : State,
    (s.tu.change = none ∨ (∃ tl, s.tu.change = some ⟨tl, false⟩ ∧ s.tick < tl.origin) → s.rollingEnded = s) ∧
    (∀ tl held, s.tu.change = some ⟨tl, held⟩ → held = true ∨ tl.origin ≤ s.tick →
      s.rollingEnded = { s with tu := { s.tu with change := none } }.applyHouse tl .deferred none)) ∧
  ∀ (l : LinkId) (id : BitVec 16) (s : State), s.takes l (.cut l id) = true →
    (s.take? id.toNat = none → exec (.cut l id) s = .next (s.answered l 0x11#8 (.no .noTake))) ∧
    ∀ t : Take, s.take? id.toNat = some t →
      (t.state ≠ .rolling → exec (.cut l id) s = .next (s.answered l 0x11#8 (.refused .wrongState (some t.state)))) ∧
      (t.state = .rolling →
        let u := { s with tt :=
            { s.tt with
              takes := s.tt.takes.map (fun k : Take => if k.id = id.toNat then { t with state := .cut, endTick := some s.tick } else k)
              rollingCount := s.tt.rollingCount - 1 } }.post
          (.takeState id.toNat (some .rolling) (some .cut) .cut (.link l) t.start (some s.tick))
        (1 < s.tt.rollingCount ∨ s.tu.change = none ∨ (∃ tl, s.tu.change = some ⟨tl, false⟩ ∧ s.tick < tl.origin) →
          exec (.cut l id) s = .next (u.answered l 0x11#8 (.ok (tickChars s.tick)))) ∧
        (∀ tl held, s.tt.rollingCount ≤ 1 → s.tu.change = some ⟨tl, held⟩ → held = true ∨ tl.origin ≤ s.tick →
          exec (.cut l id) s = .next
            (({ u with tu := { u.tu with change := none } }.applyHouse tl .deferred none).answered l 0x11#8 (.ok (tickChars s.tick)))))

/-- R109, R110, R138: CLOSE closes a CUT take; VOID removes an ARMED, CUT or uncollected CLOSED take; in any other state they
are refused. The take leaves the roll-order list, the counts follow, an explicit slate pointer on it becomes AUTO, and the
change is reported. R111: RATE replaces a take's rating in any state, by the codes NONE 0, CIRCLED 1 and NO_GOOD 2; an unknown
rating is refused BAD_VALUE first. R123: COLLECT on a CLOSED take adds the requesting link to its collected set and returns the
record. Each is refused NO_TAKE where no record holds the id, and COLLECT WRONG_STATE for a take that is not CLOSED. The take
state a refusal carries stands beside its frame, and the acceptance bodies of CLOSE and VOID are empty (log entries 7 and 19:
the model's readings). -/
def Obligations.CloseVoidRateAndCollect : Prop :=
  (∀ (l : LinkId) (id : BitVec 16) (s : State),
    let pointerGone : SlateUnit := { s.su with pointer := if s.su.pointer = .take id.toNat then .auto else s.su.pointer }
    (s.takes l (.close l id) = true →
      (s.take? id.toNat = none → exec (.close l id) s = .next (s.answered l 0x12#8 (.no .noTake))) ∧
      ∀ t : Take, s.take? id.toNat = some t →
        (t.state ≠ .cut → exec (.close l id) s = .next (s.answered l 0x12#8 (.refused .wrongState (some t.state)))) ∧
        (t.state = .cut → exec (.close l id) s = .next
          (({ s with
              tt :=
                { s.tt with
                  takes := s.tt.takes.map (fun k : Take => if k.id = id.toNat then { t with state := .closed } else k)
                  openCount := s.tt.openCount - 1
                  rollOrder := s.tt.rollOrder.filter (· ≠ id.toNat) }
              su := pointerGone }.post
            (.takeState id.toNat (some .cut) (some .closed) .close (.link l) t.start t.endTick)).answered l 0x12#8 (.ok [])))) ∧
    (s.takes l (.void l id) = true →
      (s.take? id.toNat = none → exec (.void l id) s = .next (s.answered l 0x13#8 (.no .noTake))) ∧
      ∀ t : Take, s.take? id.toNat = some t →
        (t.state = .rolling → exec (.void l id) s = .next (s.answered l 0x13#8 (.refused .wrongState (some .rolling)))) ∧
        (t.state = TakeState.closed → t.collected ≠ 0#4 → exec (.void l id) s = .next (s.answered l 0x13#8 (.no .collected))) ∧
        (t.state = .armed ∨ t.state = .cut ∨ (t.state = .closed ∧ t.collected = 0#4) → exec (.void l id) s = .next
          (({ s with
              tt :=
                { s.tt with
                  takes := s.tt.takes.filter (fun k : Take => k.id ≠ id.toNat)
                  tableCount := s.tt.tableCount - 1
                  openCount := if t.state = TakeState.closed then s.tt.openCount else s.tt.openCount - 1
                  rollOrder := s.tt.rollOrder.filter (· ≠ id.toNat) }
              su := pointerGone }.post
            (.takeState id.toNat (some t.state) none .void (.link l) t.start t.endTick)).answered l 0x13#8 (.ok []))))) ∧
  (∀ (l : LinkId) (id : BitVec 16) (s : State),
    (∀ rating : Byte, s.takes l (.rate l id rating) = true →
      (ratingOf rating = none → exec (.rate l id rating) s = .next (s.answered l 0x14#8 (.no .badValue))) ∧
      (∀ r, ratingOf rating = some r →
        (s.take? id.toNat = none → exec (.rate l id rating) s = .next (s.answered l 0x14#8 (.no .noTake))) ∧
        ((s.take? id.toNat).isSome = true → exec (.rate l id rating) s = .next
          ({ s with tt := { s.tt with takes := s.tt.takes.map (fun k : Take => if k.id = id.toNat then { k with rating := r } else k) } }.answered
            l 0x14#8 (.ok [r.code]))))) ∧
    (s.takes l (.collect l id) = true →
      (s.take? id.toNat = none → exec (.collect l id) s = .next (s.answered l 0x18#8 (.no .noTake))) ∧
      ∀ t : Take, s.take? id.toNat = some t →
        (t.state ≠ .closed → exec (.collect l id) s = .next (s.answered l 0x18#8 (.refused .wrongState (some t.state)))) ∧
        (t.state = .closed → exec (.collect l id) s = .next
          ({ s with tt := { s.tt with takes := s.tt.takes.map (fun k : Take =>
              if k.id = id.toNat then { k with collected := k.collected ||| (1#4 <<< l.val) } else k) } }.answered l 0x18#8
            (.ok { t with collected := t.collected ||| (1#4 <<< l.val) }.record))))) ∧
  [0#8, 1#8, 2#8].map ratingOf = [some .unrated, some .circled, some .noGood] ∧ (∀ b : Byte, 2 < b.toNat → ratingOf b = none) ∧
  [Rating.unrated, .circled, .noGood].map Rating.code = [0#8, 1#8, 2#8]

/-- R112, R113: a MARK at an explicit tick within the take's range is stored after every mark at or below its tick while fewer
than 16 stand; the first one not stored sets MARKS_FULL and is reported. A tick outside the range, and NOW on a take that is not
ROLLING, is refused RANGE; an ARMED take is refused WRONG_STATE, an id that no record holds NO_TAKE, and before all of these an
unknown tick-field code BAD_VALUE. A mark that a lane or a clap offers is stored the same way. Insertion into marks in tick
order gives the marks at or below the mark's tick, then the mark, then the marks above, and keeps the tick order. The take state
a refusal carries stands beside its frame (log entry 7: the model's reading). -/
def Obligations.MarkIsStoredInOrder : Prop :=
  (∀ (l : LinkId) (id : BitVec 16) (tickMode : Byte) (tick : BitVec 48) (code : Byte) (s : State),
    s.takes l (.mark l id tickMode tick code) = true →
    (1 < tickMode.toNat → exec (.mark l id tickMode tick code) s = .next (s.answered l 0x15#8 (.no .badValue))) ∧
    (tickMode.toNat ≤ 1 → s.take? id.toNat = none → exec (.mark l id tickMode tick code) s = .next (s.answered l 0x15#8 (.no .noTake))) ∧
    ∀ t : Take, tickMode.toNat ≤ 1 → s.take? id.toNat = some t →
    let at_ := if tickMode = 1#8 then tick.toNat else s.tick
    let bound := if t.state = .rolling then s.tick else t.endTick.getD s.tick
    let m : Mark := ⟨at_, .mark, .link l, code.toNat⟩
    (t.state = .armed → exec (.mark l id tickMode tick code) s = .next (s.answered l 0x15#8 (.refused .wrongState (some .armed)))) ∧
    (t.state ≠ .armed → (tickMode = 0#8 ∧ t.state ≠ .rolling) ∨ at_ < t.start.getD 0 ∨ bound < at_ →
      exec (.mark l id tickMode tick code) s = .next (s.answered l 0x15#8 (.no .range))) ∧
    (t.state ≠ .armed → tickMode = 1#8 ∨ t.state = .rolling → t.start.getD 0 ≤ at_ → at_ ≤ bound →
      (t.marks.length < 16 → exec (.mark l id tickMode tick code) s = .next
        ({ s with tt := { s.tt with takes := s.tt.takes.map (fun k : Take => if k.id = id.toNat then k.afterMark m else k) } }.answered l 0x15#8
          (.ok [1#8, char (t.marks.length + 1), flagChar t.marksFull]))) ∧
      (16 ≤ t.marks.length →
        let u := { s with tt := { s.tt with takes := s.tt.takes.map (fun k : Take => if k.id = id.toNat then k.afterMark m else k) } }
        exec (.mark l id tickMode tick code) s = .next
          ((if t.marksFull then u else u.post (.marksFull id.toNat at_ .mark)).answered l 0x15#8
            (.ok [0#8, char t.marks.length, 1#8]))))) ∧
  (∀ (s : State) (t : Take) (m : Mark), s.offerMark t m =
    let u := { s with tt := { s.tt with takes := s.tt.takes.map (fun k : Take => if k.id = t.id then k.afterMark m else k) } }
    if 16 ≤ t.marks.length ∧ t.marksFull = false then u.post (.marksFull t.id m.tick m.kind) else u) ∧
  (∀ (t : Take) (m : Mark), (t.marks.length < 16 → t.afterMark m = { t with marks := insertMark m t.marks }) ∧
    (16 ≤ t.marks.length → t.afterMark m = { t with marksFull := true })) ∧
  (∀ (m : Mark) (ms : List Mark), ms.Pairwise (fun a b => a.tick ≤ b.tick) →
    insertMark m ms = ms.filter (fun k => decide (k.tick ≤ m.tick)) ++ m :: ms.filter (fun k => decide (m.tick < k.tick)) ∧
    (insertMark m ms).Pairwise (fun a b => a.tick ≤ b.tick))

/-- R115 to R119: what the Take Table does with a lane's RUN_START, RUN_STOP, DROPOUT and SLIP. On a participant of a ROLLING
take a RUN_START sets run-seen and clears stopped; otherwise it rolls the earliest-armed ARMED take with AUTO_ROLL that lists
the lane, from its stamp, or is refused ROLL_LIMIT or LANE_BUSY by one notice with no later take tried. A RUN_STOP sets stopped;
a DROPOUT stores a mark at the larger of its stamp and the start, raises the slip count and sets stopped; each then makes the
auto-cut test, a DROPOUT with its mark's tick. A SLIP stores its mark and raises the count. The test passes on a ROLLING take
with AUTO_CUT where some participant has run and every one that has run has stopped; the take is then CUT at the largest of the
stop tick, the last mark's, the clap tick and the start tick, and a rolling count of 0 is handed to the Timeline Unit. An event
from a lane in no ROLLING take is applied to none, but for the RUN_START. -/
def Obligations.LaneEventsReachTakes : Prop :=
  ∀ (i : LaneId) (stamp : Nat) (s : State),
    let onLane (x : State) (id : Nat) (f : Participant → Participant) : State :=
      { x with tt := { x.tt with takes := x.tt.takes.map (fun k : Take =>
          if k.id = id then { k with participants := k.participants.map (fun p => if p.lane = i then f p else p) } else k) } }
    (∀ t, s.rollingTakeOf i = some t →
      let tick := max stamp (t.start.getD 0)
      s.runStart i stamp = onLane s t.id (fun p => { p with runSeen := true, stopped := false }) ∧
      s.runStop i stamp = (onLane s t.id (fun p => { p with stopped := true })).autoCutTest t.id stamp i ∧
      s.takeDropout i stamp =
        (onLane (s.offerMark t ⟨tick, .dropout, .lane i, 0⟩) t.id (fun p =>
          { p with slips := min 255 (p.slips + 1), stopped := true })).autoCutTest t.id tick i ∧
      s.takeSlip i stamp =
        onLane (s.offerMark t ⟨tick, .slip, .lane i, 0⟩) t.id (fun p => { p with slips := min 255 (p.slips + 1) })) ∧
    (s.rollingTakeOf i = none →
      s.runStop i stamp = s ∧ s.takeDropout i stamp = s ∧ s.takeSlip i stamp = s ∧
      ((∀ t : Take, t ∈ s.tt.takes → ¬ (t.state = .armed ∧ t.autoRoll = true ∧ t.lists i = true)) → s.runStart i stamp = s) ∧
      (∀ (before later : List Take) (t : Take), s.tt.takes = before ++ t :: later →
        (∀ k : Take, k ∈ before → ¬ (k.state = .armed ∧ k.autoRoll = true ∧ k.lists i = true)) →
        t.state = .armed → t.autoRoll = true → t.lists i = true →
        (s.tt.rollingCount = 4 → s.runStart i stamp = s.post (.autoRollRefused t.id i .rollLimit)) ∧
        (s.tt.rollingCount ≠ 4 → s.lanesBusy t = true → s.runStart i stamp = s.post (.autoRollRefused t.id i .laneBusy)) ∧
        (s.tt.rollingCount ≠ 4 → s.lanesBusy t = false →
          let parts := t.participants.map (fun p : Participant =>
            { p with
              rollTag :=
                if (s.input p.lane).settings.kind = .timecode ∧ (s.input p.lane).state = .tracking then
                  ((s.input p.lane).good.bind GoodArrival.fields).map WordFields.user
                else none
              runSeen := decide (p.lane = i) || (p.runSeen || ((s.input p.lane).state == .tracking && (s.input p.lane).runLevel &&
                ((s.input p.lane).settings.role == .camera || (s.input p.lane).settings.role == .sound))) })
          s.runStart i stamp =
            { s with tt :=
              { s.tt with
                takes := s.tt.takes.map (fun k : Take =>
                  if k.id = t.id then { t with state := .rolling, start := some stamp, participants := parts } else k)
                rollingCount := s.tt.rollingCount + 1
                rollOrder := s.tt.rollOrder ++ [t.id] } }.post
            (.takeState t.id (some .armed) (some .rolling) .autoRoll (.lane i) (some stamp) t.endTick)))) ∧
    (∀ (id : Nat) (t : Take), s.take? id = some t →
      let passes : Prop := t.state = .rolling ∧ t.autoCut = true ∧ (∃ p, p ∈ t.participants ∧ p.runSeen = true) ∧
        ∀ p, p ∈ t.participants → p.runSeen = true → p.stopped = true
      (¬ passes → s.autoCutTest id stamp i = s) ∧
      (passes →
        let e := max (max stamp ((t.marks.getLast?.map Mark.tick).getD 0)) (max (t.clap.getD 0) (t.start.getD 0))
        let u := { s with tt :=
            { s.tt with
              takes := s.tt.takes.map (fun k : Take => if k.id = t.id then { t with state := .cut, endTick := some e } else k)
              rollingCount := s.tt.rollingCount - 1 } }.post
          (.takeState t.id (some .rolling) (some .cut) .autoCut (.lane i) t.start (some e))
        s.autoCutTest id stamp i = if s.tt.rollingCount ≤ 1 then u.rollingEnded else u))

/-! ### Reading requests -/

/-- R163: READ CLOCK returns the tick taken, the status character, the house rate class, and the house label and subframe of
that tick, 15 characters; it changes no state and sends no notice. -/
def Obligations.ReadClockReturnsFifteen : Prop :=
  ∀ (l : LinkId) (s : State), s.takes l (.readClock l) = true →
    let body := tickChars s.tick ++ [flagChar s.hc.full ||| (flagChar s.tu.change.isSome <<< 1), char s.tu.house.rate.cls]
      ++ labelChars (s.tu.house.labelAt s.tick) s.tu.house.drop ++ bytesOf 2 (s.tu.house.subframeAt s.tick)
    exec (.readClock l) s = .next (s.answered l 0x02#8 (.ok body)) ∧ body.length = 15

/-- R23, R39, R96, R121, R122, R144, R163: READ CLOCK, READ REFERENCE, READ OUTPUT, READ TAKE, LIST TAKES, READ PANEL and
CONVERT change nothing but their own link's answer, whatever they return. READ REFERENCE and READ PANEL are always accepted,
READ OUTPUT for lanes 0 to 7, READ TAKE for an id the table holds, LIST TAKES for positions 0 to 63, each with the items its
rule lists; READ OUTPUT and LIST TAKES are otherwise refused BAD_VALUE and READ TAKE NO_TAKE. READ OUTPUT's items are the lane
state, the configurations in force and pending with their settings, the stream origin, the next boundary and unit, the word in
flight, the clap indication and HOUSE_FULL; a take record is laid out as 11.8. The bodies of READ REFERENCE, READ OUTPUT, READ
PANEL and READ INPUT have one length whatever is absent, and a take record has 42 characters with 6 for each participant and 9
for each mark (R184, 11.8). The order, widths and codes of the items, the boundary a PULSE lane reports, the stream origin of a
WAITING lane and the 0 sent for absent fields are the model's readings (log entries 10, 16 to 19, 29, 31, 34 and 35). -/
def Obligations.ReadRequestsOnlyAnswer : Prop :=
  (∀ (c : Instr) (l : LinkId) (s : State), c.onlyReads = true → requestLink c = some l → s.takes l c = true →
    ∃ r : Reply, exec c s = .next (s.answered l (requestFrame c).1 r)) ∧
  (∀ (l : LinkId) (s : State),
    (s.takes l (.readReference l) = true → exec (.readReference l) s = .next (s.answered l 0x08#8
      (.ok ([s.hc.source.code, char s.hc.refRate.cls] ++ bytesOf 2 s.refPeriod ++ [s.hc.loop.code, s.hc.state.code]
        ++ signedChars 2 s.hc.trim ++ presentOr 4 (signedChars 4) s.hc.lastCorrection
        ++ [flagChar s.hc.limit ||| (flagChar s.hc.stale <<< 1), char s.hc.inTolerance]
        ++ presentOr 2 (bytesOf 2) (s.hc.lastEdge.map (fun stamp => stamp / 32 % s.refPeriod)))))) ∧
    (s.takes l (.readPanel l) = true → exec (.readPanel l) s = .next (s.answered l 0x1B#8 (.ok s.panelItems))) ∧
    (∀ lane : Byte, s.takes l (.readOutput l lane) = true →
      (∀ o : LaneId, lane.toNat = o.val → exec (.readOutput l lane) s = .next (s.answered l 0x0E#8 (.ok (s.outputItems o)))) ∧
      (8 ≤ lane.toNat → exec (.readOutput l lane) s = .next (s.answered l 0x0E#8 (.no .badValue)))) ∧
    (∀ take : BitVec 16, s.takes l (.readTake l take) = true →
      (∀ t, s.take? take.toNat = some t → exec (.readTake l take) s = .next (s.answered l 0x16#8 (.ok t.record))) ∧
      (s.take? take.toNat = none → exec (.readTake l take) s = .next (s.answered l 0x16#8 (.no .noTake)))) ∧
    (∀ start : Byte, s.takes l (.listTakes l start) = true →
      (start.toNat ≤ 63 → exec (.listTakes l start) s = .next (s.answered l 0x17#8
        (.ok ([char s.tt.tableCount, char ((s.tt.takes.drop start.toNat).take 12).length]
          ++ ((s.tt.takes.drop start.toNat).take 12).flatMap (fun t => bytesOf 2 t.id ++ [t.state.code]))))) ∧
      (64 ≤ start.toNat → exec (.listTakes l start) s = .next (s.answered l 0x17#8 (.no .badValue))))) ∧
  (∀ s : State, s.referenceItems.length = 18 ∧ s.panelItems.length = 69 ∧ (∀ o, (s.outputItems o).length = 82)) ∧
  (∀ v : InLane, v.items.length = 97) ∧
  (∀ (s : State) (o : LaneId), let v := s.output o
    let origin : Option Nat := match v.newest with
      | some ⟨.pulse .., _, _⟩ => some 0
      | some ⟨.timecode .., line, _⟩ => line.map Timeline.origin
      | some ⟨.wordclock .., _, ph⟩ => some ph
      | some ⟨.off, _, _⟩ | none => none
    let boundary : Option Nat := match v.state, v.inForce with
      | .running, some ⟨.pulse rate _ _ _, _, _⟩ => v.nextBoundary.map (fun b => max b (gridAtOrAfter rate.period s.tick))
      | _, _ => v.nextBoundary
    let unit : Option Nat := match v.state, v.inForce with
      | .running, some ⟨.wordclock .., _, _⟩ => some v.unitIndex
      | _, _ => none
    s.outputItems o =
      [v.state.code] ++ presentOr 18 OutSetup.chars v.inForce ++ presentOr 18 OutSetup.chars v.waiting ++ presentOr 6 (bytesOf 6) origin
        ++ presentOr 7 (bytesOf 7) boundary ++ presentOr 6 (bytesOf 6) unit
        ++ presentOr 17 (fun w : InFlight => labelChars w.fields.label w.fields.drop
          ++ [flagChar w.fields.drop ||| (flagChar w.fields.run <<< 1) ||| (flagChar w.fields.clap <<< 2)]
          ++ bytesOf 3 w.fields.user.toNat ++ [char w.fields.rateClass] ++ bytesOf 7 w.endTick) v.word
        ++ presentOr 1 (fun b => [flagChar b]) (if v.isTimecode then some v.clapped else none) ++ [flagChar s.hc.full]) ∧
  (∀ (line : Option Timeline) (ph : Nat),
    (OutSetup.mk .off line ph).chars = List.replicate 18 0#8 ∧
    (∀ sr q, (OutSetup.mk (.wordclock sr q) line ph).chars = [3#8, sr.code, q.code] ++ List.replicate 15 0#8) ∧
    (∀ k d pl du, (OutSetup.mk (.pulse (.code k) d pl du) line ph).chars =
      [1#8, 0#8, char k.cls, flagChar d] ++ bytesOf 3 pl ++ bytesOf 3 du ++ List.replicate 8 0#8) ∧
    (∀ b d pl du, (OutSetup.mk (.pulse (.custom b) d pl du) line ph).chars =
      [1#8, 1#8, char b, flagChar d] ++ bytesOf 3 pl ++ bytesOf 3 du ++ List.replicate 8 0#8) ∧
    (∀ k d tls u tl, line = some tl → (OutSetup.mk (.timecode k d tls u) line ph).chars =
      [2#8, char k.cls, if tls = .follow then 0#8 else 1#8] ++ tickChars tl.origin ++ labelChars tl.label tl.drop
        ++ (match u with
          | .constant x => 0#8 :: bytesOf 3 x.toNat
          | .take => [1#8, 0#8, 0#8, 0#8]))) ∧
  (∀ t : Take, t.record =
    bytesOf 2 t.id ++ [t.state.code] ++ (t.scene ++ List.replicate 8 0#8).take 8 ++ (t.shot ++ List.replicate 4 0#8).take 4 ++ bytesOf 2 t.number
      ++ [char t.arming.val, flagChar t.autoRoll ||| (flagChar t.autoCut <<< 1) ||| (flagChar t.marksFull <<< 2), t.rating.code,
        t.collected.setWidth 8, flagChar t.start.isSome ||| (flagChar t.clap.isSome <<< 1) ||| (flagChar t.endTick.isSome <<< 2)]
      ++ tickChars (t.start.getD 0) ++ tickChars (t.clap.getD 0) ++ tickChars (t.endTick.getD 0)
      ++ [char t.participants.length, char t.marks.length]
      ++ t.participants.flatMap (fun p =>
        [char p.lane.val, flagChar p.rollTag.isSome ||| (flagChar p.runSeen <<< 1) ||| (flagChar p.stopped <<< 2)]
          ++ bytesOf 3 (p.rollTag.getD 0#24).toNat ++ [char p.slips])
      ++ t.marks.flatMap (fun m => tickChars m.tick ++ [m.kind.code, originChar m.origin, char m.code])) ∧
  (∀ t : Take, t.record.length = 42 + 6 * t.participants.length + 9 * t.marks.length)

/-- R18, R21, R22: CONVERT's five directions on any source, accepted or refused RANGE or BAD_VALUE: for a source that does not
serve the direction, an unknown direction, an invalid label, and label to label without a usable source B. R19, R20: what each
source resolves to when the request is taken: HOUSE, an output lane's newest accepted configuration, an input lane by its kind,
an explicit frame or audio stream. That the drop flag of a label value is not compared, and that a result's drop flag is sent in
the label's flags character alone, are the model's choices (log entries 21 and 27). Characters that a source or a label value
leaves unused are not judged (log entry 36: the model's choice). -/
def Obligations.ConvertOnEverySource : Prop :=
  ∀ (l : LinkId) (dir : Byte) (a : SourceField) (value : BitVec 48) (b : Option SourceField) (s : State),
    a.rest.length = 12 → (∀ f, b = some f → f.rest.length = 12) → s.takes l (.convert l dir a value b) = true →
    let answer (r : Reply) : Prop := exec (.convert l dir a value b) s = .next (s.answered l 0x1E#8 r)
    (∀ tl, s.resolveTimeline a = some tl →
      (dir = 0#8 → answer
        (.ok (labelChars (tl.labelAt value.toNat) tl.drop ++ bytesOf 2 (tl.subframeAt value.toNat) ++ bytesOf 3 (tl.frameAt value.toNat)))) ∧
      (∀ lab, valueLabel tl value = some lab →
        (dir = 1#8 → answer (if Config.maxTick < tl.tickOf lab then .no .range
          else .ok (tickChars (tl.tickOf lab) ++ bytesOf 3 (frameNumber tl.rate tl.drop lab)))) ∧
        (∀ f tlb, dir = 4#8 → b = some f → s.resolveTimeline f = some tlb → answer (if Config.maxTick < tl.tickOf lab then .no .range
          else .ok (labelChars (tlb.labelAt (tl.tickOf lab)) tlb.drop ++ bytesOf 2 (tlb.subframeAt (tl.tickOf lab))
            ++ tickChars (tl.tickOf lab))))) ∧
      (dir = 1#8 ∨ dir = 4#8 → valueLabel tl value = none → answer (.no .badValue))) ∧
    (∀ st, s.resolveStream a = some st →
      (dir = 2#8 → answer (if value.toNat < st.origin then .no .range
        else .ok (bytesOf 6 (st.indexAt value.toNat) ++ tickChars (st.startOf (st.indexAt value.toNat))))) ∧
      (dir = 3#8 → answer (if Config.maxTick < st.startOf value.toNat then .no .range else .ok (tickChars (st.startOf value.toNat))))) ∧
    (5 ≤ dir.toNat ∨ ((dir = 0#8 ∨ dir = 1#8 ∨ dir = 4#8) ∧ s.resolveTimeline a = none) ∨ ((dir = 2#8 ∨ dir = 3#8) ∧ s.resolveStream a = none) ∨
        (dir = 4#8 ∧ (b = none ∨ ∃ f, b = some f ∧ s.resolveTimeline f = none)) →
      answer (.no .badValue)) ∧
    ∀ f : SourceField,
      let serves (tl : Option Timeline) (st : Option Stream) : Prop := s.resolveTimeline f = tl ∧ s.resolveStream f = st
      let both (tl : Timeline) : Prop := serves (some tl) (some (frameStream tl.rate tl.origin))
      (f.kind = 0#8 → both s.tu.house) ∧
      (∀ o : LaneId, f.kind = 1#8 → (charAt f.rest 0).toNat = o.val →
        ((s.output o).newest = none → serves none none) ∧
        (∀ t p, (s.output o).newest = some ⟨.off, t, p⟩ → serves none none) ∧
        (∀ rate d pl du t p, (s.output o).newest = some ⟨.pulse rate d pl du, t, p⟩ → serves none (some (pulseGrid rate))) ∧
        (∀ r d k u tl p, (s.output o).newest = some ⟨.timecode r d k u, some tl, p⟩ → both tl) ∧
        (∀ sr q t p, (s.output o).newest = some ⟨.wordclock sr q, t, p⟩ → serves none (some (audioStream sr q p)))) ∧
      (∀ i : LaneId, f.kind = 2#8 → (charAt f.rest 0).toNat = i.val →
        ((s.input i).settings.kind = .off → serves none none) ∧
        ((s.input i).settings.kind = .pulse → serves none (some (pulseGrid (.code (s.input i).settings.rate)))) ∧
        (∀ tl, (s.input i).settings.kind = .timecode → (s.input i).expected = some tl → both tl)) ∧
      (f.kind = 3#8 →
        (∀ tl, timelineOf (charAt f.rest 0) (labelAtPos f.rest 7) (numberAt f.rest 1 6) = some tl → both tl) ∧
        (timelineOf (charAt f.rest 0) (labelAtPos f.rest 7) (numberAt f.rest 1 6) = none → serves none none)) ∧
      (f.kind = 4#8 →
        (∀ sr q, sampleRateOf (charAt f.rest 0) = some sr → pullOf (charAt f.rest 1) = some q →
          serves none (some (audioStream sr q (numberAt f.rest 2 6)))) ∧
        (sampleRateOf (charAt f.rest 0) = none ∨ pullOf (charAt f.rest 1) = none → serves none none)) ∧
      (5 ≤ f.kind.toNat ∨ ((f.kind = 1#8 ∨ f.kind = 2#8) ∧ 8 ≤ (charAt f.rest 0).toNat) → serves none none)

/-! ### Slate Unit -/

/-- R129 to R132: a CLAP whose stamp lies within 144,000 ticks of the lockout reference is ignored; any other becomes the
reference, is filed with the Take Table or the loose ring, and then indicates on the TIMECODE outputs, starts a burst where the
flash is IDLE, and starts the hold. A clap accepted with any stamp, from a link, a lane or the CONTACT, does the same. The loose
ring holds 8 entries: where it is full the oldest goes and the overwrite count rises, saturating at 255. The response's layout
is the model's reading (log entry 19). -/
def Obligations.ClapIsScreened : Prop :=
  ∀ (l : LinkId) (s : State), s.takes l (.clap l) = true →
    (∀ r, s.su.lockout = some r → ((s.tick : Int) - r).natAbs < 144000 →
      exec (.clap l) s = .next (s.answered l 0x19#8 (.ok (1#8 :: tickChars s.tick ++ [0#8, 0#8, 0#8, 0#8, 0#8])))) ∧
    ((∀ r, s.su.lockout = some r → 144000 ≤ ((s.tick : Int) - r).natAbs) →
      let u := { s with su := { s.su with lockout := some s.tick } }
      let finish (x : State) : State := ((x.indicateClap).startBurst).startHold s.tick
      (∀ t : Take, s.slateTake = some t → t.state = .rolling → t.start.getD 0 ≤ s.tick → t.clap = none → exec (.clap l) s = .next
        ((finish ((u.modTake t.id (fun k => { k with clap := some s.tick })).post (.clap t.id s.tick (.link l) false))).answered l 0x19#8
          (.ok (0#8 :: tickChars s.tick ++ (1#8 :: bytesOf 2 t.id) ++ [1#8, 0#8])))) ∧
      (∀ t : Take, s.slateTake = some t → t.state = .rolling → t.start.getD 0 ≤ s.tick → t.clap ≠ none → exec (.clap l) s = .next
        ((finish ((u.offerMark t ⟨s.tick, .secondClap, .link l, 0⟩).post (.clap t.id s.tick (.link l) true))).answered l 0x19#8
          (.ok (0#8 :: tickChars s.tick ++ (1#8 :: bytesOf 2 t.id) ++ [1#8, 1#8])))) ∧
      ((∀ t : Take, s.slateTake = some t → t.state ≠ .rolling ∨ s.tick < t.start.getD 0) →
        let x := { u with su := u.su.addLoose ⟨s.tick, .link l⟩ }
        exec (.clap l) s = .next
          ((finish (x.post (.looseClap s.tick (.link l) x.su.ring.length x.su.overwritten))).answered l 0x19#8
            (.ok (0#8 :: tickChars s.tick ++ [0#8, 0#8, 0#8, 1#8, 2#8]))))) ∧
    (∀ x : State,
      (∀ o, x.indicateClap.output o = if (x.output o).isTimecode then { x.output o with clapped := true } else x.output o) ∧
      x.startBurst = (if x.su.burst = none ∧ x.hc.full = false then
        { x with su := { x.su with burst := some (newBurst x.su.flash x.tick) } } else x) ∧
      (∀ stamp, x.startHold stamp = (if 0 < x.su.panel.hold then
        { x with su := { x.su with hold := some ⟨x.displayLabel stamp, x.tick + x.su.panel.hold⟩ } } else x))) ∧
    (∀ (u : SlateUnit) (c : LooseClap),
      (u.ring.length < 8 → u.addLoose c = { u with ring := u.ring ++ [c] }) ∧
      (8 ≤ u.ring.length → u.addLoose c = { u with ring := u.ring.drop 1 ++ [c], overwritten := min 255 (u.overwritten + 1) })) ∧
    (∀ (x : State) (stamp : Nat) (source : Origin),
      let u : State := { x with su := { x.su with lockout := some stamp } }
      let finish (y : State) : State := ((y.indicateClap).startBurst).startHold stamp
      (∀ t : Take, x.slateTake = some t → t.state = .rolling → t.start.getD 0 ≤ stamp → t.clap = none →
        x.acceptClap stamp source = (finish ({ u with tt := { u.tt with takes := u.tt.takes.map (fun k : Take =>
          if k.id = t.id then { k with clap := some stamp } else k) } }.post (.clap t.id stamp source false)), .first t.id)) ∧
      (∀ t : Take, x.slateTake = some t → t.state = .rolling → t.start.getD 0 ≤ stamp → t.clap ≠ none →
        x.acceptClap stamp source =
          (finish ((u.offerMark t ⟨stamp, .secondClap, source, 0⟩).post (.clap t.id stamp source true)), .second t.id)) ∧
      ((∀ t : Take, x.slateTake = some t → t.state ≠ .rolling ∨ stamp < t.start.getD 0) →
        let y : State := { u with su := u.su.addLoose ⟨stamp, source⟩ }
        x.acceptClap stamp source = (finish (y.post (.looseClap stamp source y.su.ring.length y.su.overwritten)), .loose)))

/-- R134, R143, R133: SET FLASH stores its settings clamped; SET SLATE sets or keeps the pointer and stores the panel settings,
ending a hold where the display source or the hold time changes; an unknown duty code, pointer code or display kind, a display
lane above 7 and a blink cycle or duty not listed are refused BAD_VALUE; READ LOOSE returns the ring and empties it only where
asked. The layout of the SET SLATE response with its pointer and display source, the take state its refusal carries beside the
frame, and the display lane not judged with HOUSE are the model's readings and choice (log entries 7, 17, 19, 30 and 33). -/
def Obligations.SlateSettingsStored : Prop :=
  ∀ (l : LinkId) (s : State),
    (∀ (count duty : Byte) (onTime : BitVec 24) (d : DutyCode), s.takes l (.setFlash l count onTime duty) = true → dutyCodeOf duty = some d →
      let f : FlashSettings := ⟨max 1 count.toNat, max 72 (min 72000 onTime.toNat), d⟩
      exec (.setFlash l count onTime duty) s = .next ({ s with su := { s.su with flash := f } }.answered l 0x1C#8
        (.ok ([char f.count] ++ bytesOf 3 f.onTime ++ [d.code])))) ∧
    (∀ (count duty : Byte) (onTime : BitVec 24), s.takes l (.setFlash l count onTime duty) = true → 5 < duty.toNat →
      exec (.setFlash l count onTime duty) s = .next (s.answered l 0x1C#8 (.no .badValue))) ∧
    (∀ (pointer display lane cycle duty : Byte) (take : BitVec 16) (hold : BitVec 24),
      s.takes l (.setSlate l pointer take display lane cycle duty hold) = true →
      2 < pointer.toNat ∨ 2 < display.toNat ∨ (display ≠ 0#8 ∧ 7 < lane.toNat) ∨ cycle.toNat ∉ [8, 16, 32, 64] ∨ duty.toNat ∉ [25, 50, 75] →
      exec (.setSlate l pointer take display lane cycle duty hold) s = .next (s.answered l 0x1A#8 (.no .badValue))) ∧
    (∀ (pointer display lane cycle duty : Byte) (take : BitVec 16) (hold : BitVec 24) (d : Display),
      s.takes l (.setSlate l pointer take display lane cycle duty hold) = true → displayOf display lane = some d →
      cycle.toNat ∈ [8, 16, 32, 64] → duty.toNat ∈ [25, 50, 75] →
      let p : PanelSettings := ⟨d, cycle.toNat, duty.toNat, min hold.toNat 7200000⟩
      let stored (q : Pointer) : State :=
        { s with su :=
          { s.su with
            pointer := q
            panel := p
            hold := if d = s.su.panel.display ∧ p.hold = s.su.panel.hold then s.su.hold else none } }
      let answer (x : State) : State :=
        x.answered l 0x1A#8 (.ok (x.su.pointer.chars ++ presentOr 2 (bytesOf 2) (x.slateTake.map Take.id) ++ p.chars))
      (pointer = 0#8 → exec (.setSlate l pointer take display lane cycle duty hold) s = .next (answer (stored .auto))) ∧
      (pointer = 2#8 → exec (.setSlate l pointer take display lane cycle duty hold) s = .next (answer (stored s.su.pointer))) ∧
      (pointer = 1#8 → s.take? take.toNat = none → exec (.setSlate l pointer take display lane cycle duty hold) s =
        .next (s.answered l 0x1A#8 (.no .noTake))) ∧
      (∀ t : Take, pointer = 1#8 → s.take? take.toNat = some t →
        (t.state = .closed → exec (.setSlate l pointer take display lane cycle duty hold) s =
          .next (s.answered l 0x1A#8 (.refused .wrongState (some .closed)))) ∧
        (t.state ≠ .closed → exec (.setSlate l pointer take display lane cycle duty hold) s =
          .next (answer (stored (.take take.toNat)))))) ∧
    (∀ clear : Byte, s.takes l (.readLoose l clear) = true →
      let items := [char s.su.ring.length] ++ s.su.ring.flatMap (fun c => tickChars c.stamp ++ [originChar c.source]) ++ [char s.su.overwritten]
      (clear = 0#8 → exec (.readLoose l clear) s = .next (s.answered l 0x1D#8 (.ok items))) ∧
      (clear = 1#8 → exec (.readLoose l clear) s = .next
        ({ s with su := { s.su with ring := [], overwritten := 0 } }.answered l 0x1D#8 (.ok items))) ∧
      (1 < clear.toNat → exec (.readLoose l clear) s = .next (s.answered l 0x1D#8 (.no .badValue)))) ∧
    (∀ p : PanelSettings, p.chars = p.display.chars ++ [char p.cycle, char p.duty] ++ bytesOf 3 p.hold) ∧
    Pointer.auto.chars = [0#8, 0#8, 0#8] ∧ (∀ id, (Pointer.take id).chars = 1#8 :: bytesOf 2 id) ∧
    Display.house.chars = [0#8, 0#8] ∧ (∀ o : LaneId, (Display.output o).chars = [1#8, char o.val] ∧ (Display.input o).chars = [2#8, char o.val]) ∧
    [DutyCode.d11, .d12, .d13, .d21, .d31, .steady].map DutyCode.code = [0#8, 1#8, 2#8, 3#8, 4#8, 5#8] ∧
    [0#8, 1#8, 2#8, 3#8, 4#8, 5#8].map dutyCodeOf = [DutyCode.d11, .d12, .d13, .d21, .d31, .steady].map some ∧
    (∀ k lane : Byte, (k = 0#8 → displayOf k lane = some .house) ∧ (∀ i : LaneId, lane.toNat = i.val →
      (k = 1#8 → displayOf k lane = some (.output i)) ∧ (k = 2#8 → displayOf k lane = some (.input i))))

/-- R137: the slate take as the pointer resolves: under AUTO the ROLLING take nearest the tail of the roll-order list, or else
the take at its tail, or none for an empty list; under an explicit id the take holding it. R139, R142: the digits show the held
label in a hold, and otherwise the label of the current tick on the house or the output lane's timeline, or the label of the
input lane's latest good word, or are blank. R141: the lamp is BLINK, STEADY or DARK by the slate take's state, lit by the blink
grid of the display source's rate code, or the house's. R140, R144: what READ PANEL sends of them; the layout, the lamp's two
characters, the pointer and display source items and IDLE as an absent flash item are the model's readings (log entries 16 to
19, 31, 33, 34 and 35). -/
def Obligations.SlateTakeAndPanel : Prop :=
  ∀ s : State,
    (∀ id, s.su.pointer = .take id → s.slateTake = s.take? id) ∧
    (s.su.pointer = .auto →
      (s.tt.rollOrder = [] → s.slateTake = none) ∧
      (∀ before id later t, s.tt.rollOrder = before ++ id :: later → s.take? id = some t → t.state = .rolling →
        (∀ j k, j ∈ later → s.take? j = some k → k.state ≠ .rolling) → s.slateTake = some t) ∧
      (∀ before id t, s.tt.rollOrder = before ++ [id] → s.take? id = some t →
        (∀ j k, j ∈ s.tt.rollOrder → s.take? j = some k → k.state ≠ .rolling) → s.slateTake = some t)) ∧
    (∀ h, s.su.hold = some h → s.digits = h.label) ∧ (s.su.hold = none → s.digits = s.displayLabel s.tick) ∧
    (∀ house r c, (setupOf house r c).timeline.isSome = c.isTimecode) ∧
    (∀ t, (s.su.panel.display = .house → s.displayLabel t = some ⟨s.tu.house.labelAt t, s.tu.house.drop⟩) ∧
      (∀ o, s.su.panel.display = .output o →
        (∀ tl, (s.output o).newestTimeline = some tl → s.displayLabel t = some ⟨tl.labelAt t, tl.drop⟩) ∧
        ((s.output o).newestTimeline = none → s.displayLabel t = none)) ∧
      (∀ i, s.su.panel.display = .input i →
        (∀ g f, (s.input i).settings.kind = .timecode → (s.input i).good = some g → g.fields = some f →
          s.displayLabel t = some ⟨f.label, f.drop⟩) ∧
        ((s.input i).settings.kind ≠ .timecode ∨ (s.input i).good = none → s.displayLabel t = none))) ∧
    (let rate : RateCode := match s.su.panel.display with
        | .house => s.tu.house.rate
        | .output o => (match (s.output o).newestTimeline with
          | some tl => tl.rate
          | none => s.tu.house.rate)
        | .input i => if (s.input i).settings.kind = .timecode then (s.input i).settings.rate else s.tu.house.rate
      (∀ t, s.slateTake = some t → t.state = .armed → lampOf s.slateTake = .blink ∧
        (s.lampLit = true ↔ s.tick / rate.period % s.su.panel.cycle < s.su.panel.cycle * s.su.panel.duty / 100)) ∧
      (∀ t, s.slateTake = some t → t.state = .rolling → lampOf s.slateTake = .steady ∧ s.lampLit = true) ∧
      ((∀ t, s.slateTake = some t → t.state = .cut ∨ t.state = .closed) → lampOf s.slateTake = .dark ∧ s.lampLit = false)) ∧
    s.panelItems =
      presentOr 5 (fun d : ShownLabel => labelChars d.label d.drop) s.digits ++ s.su.panel.display.chars
        ++ presentOr 14 (fun t : Take => textChars 8 t.scene ++ textChars 4 t.shot ++ bytesOf 2 t.number) s.slateTake
        ++ [(lampOf s.slateTake).code, flagChar s.lampLit]
        ++ presentOr 13 (fun h : Hold => presentOr 5 (fun d : ShownLabel => labelChars d.label d.drop) h.label ++ bytesOf 7 h.endTick) s.su.hold
        ++ s.su.pointer.chars ++ presentOr 3 (fun t : Take => bytesOf 2 t.id ++ [t.state.code]) s.slateTake
        ++ [char s.su.panel.cycle, char s.su.panel.duty] ++ bytesOf 3 s.su.panel.hold
        ++ presentOr 9 (fun b : Burst => [char b.toBegin, flagChar (!b.lit)] ++ bytesOf 7 b.endTick) s.su.burst
        ++ [s.su.contact.code] ++ presentOr 6 tickChars s.su.lockout

/-- R128, R135, R136, R142: the contact's closing starts the debounce from OPEN, its opening leaves TIMING or HELD; a debounce
expiry that is due presents a clap stamped at the closure; a burst moves between its phases at its next step and ends at its
last pulse's end; pulse j of a ratio duty code is on from s + j × (a + b) for a ticks, and STEADY gives one pulse of n × a
ticks; a hold ends at its end tick. Out of its condition each event has no effect (log entry 4: the model's choice). -/
def Obligations.ContactBurstAndHoldEvents : Prop :=
  ∀ s : State,
    (s.su.contact = .opened → exec .contactClose s = .next { s with su := { s.su with contact := .timing s.tick } }) ∧
    (s.su.contact ≠ .opened → exec .contactClose s = .next s) ∧
    exec .contactOpen s = .next { s with su := { s.su with contact := .opened } } ∧
    (∀ c, s.su.contact = .timing c → c + 1440 ≤ s.tick →
      let u := { s with su := { s.su with contact := .held } }
      ((∃ r, s.su.lockout = some r ∧ ((c : Int) - r).natAbs < 144000) → exec .debounceExpiry s = .next u) ∧
      ((∀ r, s.su.lockout = some r → 144000 ≤ ((c : Int) - r).natAbs) →
        exec .debounceExpiry s = .next (u.acceptClap c .contact).1)) ∧
    (s.debounceDue = false → exec .debounceExpiry s = .next s) ∧
    (∀ b, s.su.burst = some b → b.nextStep ≤ s.tick →
      (b.lit = true → 0 < b.toBegin → exec .burstStep s = .next
        { s with su := { s.su with burst := some { b with lit := false, nextStep := b.nextStep + b.settings.offTime } } }) ∧
      (b.lit = false →
        let after : Burst := { b with lit := true, toBegin := b.toBegin - 1, nextStep := b.nextStep + b.settings.pulseOn }
        exec .burstStep s = .next { s with su := { s.su with burst := some after } }) ∧
      (b.lit = true → b.toBegin = 0 → exec .burstEnd s = .next { s with su := { s.su with burst := none } })) ∧
    (s.burstStepDue = false → exec .burstStep s = .next s) ∧ (s.burstEndDue = false → exec .burstEnd s = .next s) ∧
    (∀ h, s.su.hold = some h → h.endTick ≤ s.tick → exec .holdEnd s = .next { s with su := { s.su with hold := none } }) ∧
    (s.holdDue = false → exec .holdEnd s = .next s) ∧
    (∀ f : FlashSettings,
      (f.duty = .d11 → f.offTime = f.onTime) ∧ (f.duty = .d12 → f.offTime = 2 * f.onTime) ∧ (f.duty = .d13 → f.offTime = 3 * f.onTime) ∧
      (f.duty = .d21 → f.offTime = f.onTime / 2) ∧ (f.duty = .d31 → f.offTime = f.onTime / 3)) ∧
    (∀ (f : FlashSettings) (t j : Nat), f.duty ≠ .steady → j < f.count →
      Nat.iterate Burst.step (2 * j) (newBurst f t) =
        ⟨f, t, f.count - 1 - j, true, t + j * (f.onTime + f.offTime) + f.onTime⟩ ∧
      (newBurst f t).endTick = t + f.count * f.onTime + (f.count - 1) * f.offTime) ∧
    (∀ (f : FlashSettings) (t : Nat), f.duty = .steady → newBurst f t = ⟨f, t, 0, true, t + f.count * f.onTime⟩ ∧
      (newBurst f t).endTick = t + f.count * f.onTime)

/-! ### Links -/

/-- R150, R151, R152: a received character is stored with its tag where the receive FIFO has room, and lost with the overrun
mark set where it holds 32; a link in break receives none. A break empties the FIFO, releases the hold, clears the mark and
discards a frame in assembly; an outcome held in DONE is kept. The hold output is asserted at 24 and released at 8. That a BREAK
on a link in break changes nothing is the model's choice (log entry 4). -/
def Obligations.ReceivePath : Prop :=
  ∀ (l : LinkId) (s : State), let p := s.link l
    (∀ (data : Byte) (lead framing : Bool),
      (p.inBreak = false → p.rx.length < 32 → exec (.characterReceived l data lead framing) s = .next (s.modLink l (fun p =>
        { p with
          rx := p.rx ++ [⟨data, lead, if p.overrunMark then .overrun else if framing then .framing else .clean⟩]
          hold := if 24 ≤ p.rx.length + 1 then true else if p.rx.length + 1 ≤ 8 then false else p.hold
          overrunMark := false }))) ∧
      (p.inBreak = false → 32 ≤ p.rx.length → exec (.characterReceived l data lead framing) s =
        .next (s.modLink l (fun p => { p with overrunMark := true }))) ∧
      (p.inBreak = true → exec (.characterReceived l data lead framing) s = .next s)) ∧
    (p.inBreak = false → exec (.lineBreak l) s = .next (s.modLink l (fun p =>
      { p with
        inBreak := true
        rx := []
        hold := false
        overrunMark := false
        assembler := match p.assembler with
          | .done h => .done h
          | _ => .idle }))) ∧
    (p.inBreak = true → exec (.lineBreak l) s = .next s) ∧
    exec (.breakEnd l) s = .next (s.modLink l (fun p => { p with inBreak := false }))

/-- R154, R155, R157: what the assembler does with the head character of the receive FIFO, by its state and the character's tag;
in DONE, or with the FIFO empty, it takes none. R156, R158: the silence timer ends a frame with INCOMPLETE only where the FIFO
is empty mid-frame; a held refusal is answered where the link is free. That a commanded event out of its condition has no
effect, and that the 16 character times of the silence timer are not counted, are the model's choices (log entries 4 and 23). -/
def Obligations.AssemblerMoves : Prop :=
  ∀ (l : LinkId) (s : State), let p := s.link l
    (∀ (c : RxChar) (rest : List RxChar), p.rx = c :: rest →
      let took (a : Assembler) : State := s.modLink l (fun p =>
        { p with
          rx := rest
          hold := if 24 ≤ rest.length then true else if rest.length ≤ 8 then false else p.hold
          assembler := a })
      (p.assembler.isDone = true → exec (.characterTaken l) s = .next s) ∧
      (c.tag = .clean → c.lead = true → p.assembler.isDone = false → exec (.characterTaken l) s = .next (took (.length c.data))) ∧
      (c.tag = .clean → c.lead = false →
        (p.assembler = .idle → exec (.characterTaken l) s = .next (took .idle)) ∧
        (∀ k, p.assembler = .length k → exec (.characterTaken l) s = .next (took
          (if 60 < c.data.toNat then .done (.refusal k .badLength)
            else if c.data = 0#8 then .check k [] else .body k c.data.toNat []))) ∧
        (∀ k n got, p.assembler = .body k n got → exec (.characterTaken l) s = .next (took
          (if got.length + 1 < n then .body k n (got ++ [c.data]) else .check k (got ++ [c.data])))) ∧
        (∀ k got, p.assembler = .check k got → exec (.characterTaken l) s = .next (took (.done
          (if got.foldl (· + ·) (k + char got.length) + c.data ≠ 0#8 then .refusal k .badCheck
            else if allowedLengths k = [] then .refusal k .unknownKind
            else if got.length ∈ allowedLengths k then .request k got else .refusal k .badLength))))) ∧
      (c.tag ≠ .clean →
        (p.assembler = .idle → exec (.characterTaken l) s = .next (took
          (if c.lead then .done (.refusal c.data .lineError) else .idle))) ∧
        (∀ k, p.assembler.midFrame = some k → exec (.characterTaken l) s = .next (took (.done (.refusal k .lineError)))))) ∧
    (p.rx = [] → exec (.characterTaken l) s = .next s) ∧
    (∀ k, p.rx = [] → p.assembler.midFrame = some k → exec (.silenceTimerExpiry l) s =
      .next (s.modLink l (fun p => { p with assembler := .done (.refusal k .incomplete) }))) ∧
    (p.rx ≠ [] ∨ p.assembler.midFrame = none → exec (.silenceTimerExpiry l) s = .next s) ∧
    (∀ k code, p.assembler = .done (.refusal k code) →
      (p.free = true → exec (.assemblerRefusal l) s = .next (s.answered l k (.no code))) ∧
      (p.free = false → exec (.assemblerRefusal l) s = .next s)) ∧
    ((∀ k code, p.assembler ≠ .done (.refusal k code)) → exec (.assemblerRefusal l) s = .next s)

/-- R160, R169, R170: the feeder moves one character of its frame into a transmit FIFO with room, a waiting response before any
notice; a ready notice leaves the queue as its first character enters, and the release goes off when the queue empties. R161,
R149, R179: a character sent leaves the FIFO, the next starts unless pause is asserted, a pending divisor comes into force at
the end of its response, and the last character of an accepted RESTART's response brings start-up. That the character being sent
stays at the FIFO's head, and that the divisor and the RESTART wait on a count of characters, are the model's readings (log
entry 6); that FEEDER_CHARACTER, NOTICE_FED and CHARACTER_SENT out of their condition change nothing is its choice (log entry
4). -/
def Obligations.TransmitPath : Prop :=
  ∀ (l : LinkId) (s : State), let p := s.link l
    (∀ w c rest, p.feeder = .free ∨ p.feeder = .response → p.response = some w → w.frame.drop w.fed = c :: rest →
      (p.tx.length < 32 → exec (.feederCharacter l) s = .next (s.modLink l (fun p =>
        { p with
          tx := p.tx ++ [c]
          sending := p.sending || !p.pause
          response := if rest = [] then none else some { w with fed := w.fed + 1 }
          feeder := if rest = [] then .free else .response }))) ∧
      (32 ≤ p.tx.length → exec (.feederCharacter l) s = .next (s.modLink l (fun p => { p with feeder := .response })))) ∧
    (∀ entered c rest, p.feeder = .notice entered (c :: rest) →
      (p.tx.length < 32 → exec (.feederCharacter l) s = .next (s.modLink l (fun p =>
        { p with
          tx := p.tx ++ [c]
          sending := p.sending || !p.pause
          queue := if entered then p.queue else p.queue.drop 1
          release := if entered then p.release else p.release && decide (p.queue.drop 1 ≠ [])
          batchExpiry := if entered then p.batchExpiry else if p.queue.drop 1 = [] then none else p.batchExpiry
          feeder := if rest = [] then .free else .notice true rest }))) ∧
      (32 ≤ p.tx.length → exec (.feederCharacter l) s = .next s)) ∧
    (p.feeder = .free → p.response = none → exec (.feederCharacter l) s = .next s) ∧
    (∀ q qs c rest, p.feeder = .free → p.response = none → p.release = true → p.restartAfter = none → p.queue = q :: qs →
      q.frame = c :: rest →
      (p.tx.length < 32 → exec (.noticeFed l) s = .next (s.modLink l (fun p =>
        { p with
          tx := p.tx ++ [c]
          sending := p.sending || !p.pause
          queue := qs
          release := decide (qs ≠ [])
          batchExpiry := if qs = [] then none else p.batchExpiry
          feeder := .notice true rest }))) ∧
      (32 ≤ p.tx.length → exec (.noticeFed l) s = .next (s.modLink l (fun p => { p with feeder := .notice false q.frame })))) ∧
    (p.noticeReady = false → exec (.noticeFed l) s = .next s) ∧
    (∀ c rest, p.sending = true → p.tx = c :: rest →
      (p.restartAfter = some 1 → exec (.characterSent l) s = .next s.startUp) ∧
      (p.restartAfter = none ∨ (∃ n, p.restartAfter = some (n + 2)) → exec (.characterSent l) s = .next (s.modLink l (fun p =>
        { p with
          tx := rest
          sending := !p.pause && decide (rest ≠ [])
          divisor := match p.pendingDivisor with
            | some d => if d.after ≤ 1 then d.value else p.divisor
            | none => p.divisor
          pendingDivisor := match p.pendingDivisor with
            | some d => if d.after ≤ 1 then none else some ⟨d.value, d.after - 1⟩
            | none => none
          restartAfter := p.restartAfter.map (· - 1) })))) ∧
    (p.sending = false ∨ p.tx = [] → exec (.characterSent l) s = .next s) ∧
    exec (.pauseAsserted l) s = .next (s.modLink l (fun p => { p with pause := true })) ∧
    exec (.pauseReleased l) s = .next (s.modLink l (fun p => { p with pause := false, sending := p.sending || decide (p.tx ≠ []) }))

/-- R149: SET LINK clamps the divisor to 1 to 4,095. For another link it is in force at once and any pending divisor there is
discarded; for the requesting link it is pending until the last character of this response, behind the characters ahead of it,
has been sent. A link number above 3 is refused BAD_VALUE. The bit rate carried is 691,200/D where that is whole; its three
characters are a free value where it is not (log entry 20); the count of characters a pending divisor waits for is the model's
reading (log entry 6). -/
def Obligations.SetLinkDivisor : Prop :=
  ∀ (l : LinkId) (link : Byte) (divisor : BitVec 16) (s : State), s.takes l (.setLink l link divisor) = true →
    let d := max 1 (min 4095 divisor.toNat)
    let body := [link] ++ bytesOf 2 d ++ bitRateChars d
    (3 < link.toNat → exec (.setLink l link divisor) s = .next (s.answered l 0x1F#8 (.no .badValue))) ∧
    (∀ k : LinkId, link.toNat = k.val → k ≠ l → exec (.setLink l link divisor) s = .next
      ((s.modLink k (fun p => { p with divisor := d, pendingDivisor := none })).answered l 0x1F#8 (.ok body))) ∧
    (link.toNat = l.val → exec (.setLink l link divisor) s = .next (s.answered l 0x1F#8 (.accepted body (.divisor d))) ∧
      ((s.answered l 0x1F#8 (.accepted body (.divisor d))).link l).divisor = (s.link l).divisor ∧
      ((s.answered l 0x1F#8 (.accepted body (.divisor d))).link l).pendingDivisor = some ⟨d, (s.link l).charsAhead + 9⟩) ∧
    (691200 % d = 0 → bitRateChars d = bytesOf 3 (691200 / d)) ∧ (bitRateChars d).length = 3

/-- R171, R172: SET NOTICES is refused BAD_VALUE for a class outside the five or a timeout of 0; accepted, it stores the
settings with the level clamped, removes the queued notices of dropped classes, and settles the release and the batch expiry.
R169: a batch expiry that is due turns the release on. That a chosen notice not yet begun is dropped with its class is the
model's reading (log entry 15), and that a BATCH_EXPIRY that is not due changes nothing is its choice (log entry 4). -/
def Obligations.NoticeSettingsAndBatch : Prop :=
  ∀ (l : LinkId) (s : State), let p := s.link l
    (∀ classes level timeout : Byte, s.takes l (.setNotices l classes level timeout) = true →
      let set : NoticeSettings := ⟨classes.setWidth 5, max 1 (min 32 level.toNat), timeout.toNat⟩
      let kept := p.queue.filter (fun q => (classes.setWidth 5).getLsbD q.notice.body.noticeClass.bit)
      let stored (release : Bool) (expiry : Option Nat) : State := s.modLink l (fun p =>
        { p with
          notices := set
          queue := kept
          feeder := p.feederAfterDrop (classes.setWidth 5)
          release := release
          batchExpiry := expiry })
      let answer (x : State) : State := x.answered l 0x20#8
        (.ok [(classes.setWidth 5).setWidth 8, char set.level, timeout, char kept.length, flagChar p.gap])
      (31 < classes.toNat ∨ timeout = 0#8 → exec (.setNotices l classes level timeout) s = .next (s.answered l 0x20#8 (.no .badValue))) ∧
      (classes.toNat ≤ 31 → timeout ≠ 0#8 →
        (kept = [] → exec (.setNotices l classes level timeout) s = .next (answer (stored false none))) ∧
        (∀ q qs, kept = q :: qs →
          (p.release = true → exec (.setNotices l classes level timeout) s = .next (answer (stored true p.batchExpiry))) ∧
          (p.release = false → set.level ≤ kept.length ∨ q.entered + timeout.toNat * 720 ≤ s.tick →
            exec (.setNotices l classes level timeout) s = .next (answer (stored true none))) ∧
          (p.release = false → kept.length < set.level → s.tick < q.entered + timeout.toNat * 720 →
            exec (.setNotices l classes level timeout) s =
              .next (answer (stored false (some (q.entered + timeout.toNat * 720)))))))) ∧
    (∀ t, p.batchExpiry = some t → t ≤ s.tick → exec (.batchExpiry l) s =
      .next (s.modLink l (fun p => { p with release := true, batchExpiry := none }))) ∧
    (p.batchDue s.tick = false → exec (.batchExpiry l) s = .next s)

/-! ### Settings Store -/

/-- R174, R176, R177, R179: SAVE is refused BUSY while a write is in flight or where its end would lie above the maximum;
accepted, it takes a snapshot of the settings and begins a write of 28,800 ticks with the store INCOMPLETE. A write's end makes
its snapshot the image, the store GOOD and STORE_FAULT clear, and hands one SAVE_DONE. RESTART is refused BUSY or STORE_FAULT;
accepted, it waits for its own response. The empty body of RESTART's acceptance, the old image kept during a write, the count of
characters RESTART waits for and the store state codes are the model's readings (log entries 6, 13, 18 and 19); that a WRITE_END
that is not due changes nothing is its choice (log entry 4). -/
def Obligations.SaveWriteAndRestart : Prop :=
  ∀ (l : LinkId) (s : State),
    (s.takes l (.save l) = true →
      (s.store.write ≠ none ∨ Config.maxTick < s.tick + 28800 → exec (.save l) s = .next (s.answered l 0x21#8 (.no .busy))) ∧
      (s.store.write = none → s.tick + 28800 ≤ Config.maxTick → exec (.save l) s = .next
        ({ s with store :=
            { s.store with state := .incomplete, write := some ⟨s.snapshot, s.tick, s.tick + 28800, l⟩ } }.answered l 0x21#8
          (.ok (1#8 :: tickChars s.tick ++ tickChars (s.tick + 28800)))))) ∧
    (∀ w, s.store.write = some w → w.endTick ≤ s.tick → exec .writeEnd s = .next
      ({ s with store := { image := some w.snapshot, state := .good, write := none, fault := false } }.post
        (.saveDone w.taken w.link .good s.store.fault))) ∧
    (s.writeDue = false → exec .writeEnd s = .next s) ∧
    (s.takes l (.restart l) = true →
      (s.store.write ≠ none → exec (.restart l) s = .next (s.answered l 0x22#8 (.no .busy))) ∧
      (s.store.write = none → s.store.state ≠ .good → exec (.restart l) s = .next (s.answered l 0x22#8 (.no .storeFault))) ∧
      (s.store.write = none → s.store.state = .good → exec (.restart l) s = .next (s.answered l 0x22#8 (.accepted [] .restart)) ∧
        ((s.answered l 0x22#8 (.accepted [] .restart)).link l).restartAfter = some ((s.link l).charsAhead + 3))) ∧
    (s.snapshot.houseRate = s.tu.house.rate ∧ s.snapshot.houseDrop = s.tu.house.drop ∧ s.snapshot.autoJam = s.tu.autoJam ∧
      s.snapshot.refSource = s.hc.source ∧ s.snapshot.refRate = s.hc.refRate ∧ s.snapshot.loop = s.hc.loop ∧ s.snapshot.trim = s.hc.trim ∧
      (∀ i, s.snapshot.inputs.get i = (s.input i).settings) ∧
      (∀ o su, (s.output o).newest = some su → s.snapshot.outputs.get o = su.config) ∧
      (∀ k, s.snapshot.divisors.get k = (s.link k).newestDivisor ∧ s.snapshot.notices.get k = (s.link k).notices) ∧
      s.snapshot.flash = s.su.flash ∧ s.snapshot.panel = s.su.panel)

/-- R178, R40, R56, R81, R97, R126, R147, R164, R173, R175: start-up loads the image where the store is GOOD and the factory
defaults otherwise, puts every block at its start-up values, cuts a write in flight, sets STORE_FAULT for an INCOMPLETE store
and clears it for another, and leaves the image and the store state. What an input pin or the queue of commands shows across a
start-up is the model's reading (log entry 22). -/
def Obligations.StartUpLoadsSettings : Prop :=
  ∀ s : State,
    let set := match s.store.state with
      | .good => s.store.image.getD factorySettings
      | .incomplete => factorySettings
      | .blank => factorySettings
    let house : Timeline := ⟨set.houseRate, set.houseDrop, 0, ⟨0, 0, 0, 0⟩⟩
    ∃ t, exec .startUp s = .next t ∧
      t.store = { s.store with write := none, fault := decide (s.store.state = .incomplete) } ∧
      t.tu = ⟨house, none, [], set.autoJam⟩ ∧ t.tt = ⟨[], 1, 0, 0, 0, []⟩ ∧ t.pending = s.pending ∧
      t.tick = 0 ∧ t.hc.full = false ∧ t.hc.fine = 0 ∧ t.hc.trim = set.trim ∧ t.hc.source = set.refSource ∧ t.hc.refRate = set.refRate ∧
      t.hc.loop = set.loop ∧ t.hc.state = (if set.refSource = .off then .off else .acquire) ∧ t.hc.limit = false ∧ t.hc.stale = false ∧
      t.hc.holdoverSince = none ∧ t.hc.lastCorrection = none ∧ t.hc.windowStart = none ∧ t.hc.lastEdge = none ∧ t.hc.edgeCount = 0 ∧ t.hc.inTolerance = 0 ∧
      (set.refSource ≠ .off → t.hc.nextExpected = some t.refPeriod) ∧ (set.refSource = .off → t.hc.nextExpected = none) ∧
      (∀ i, t.input i = clearedInput (set.inputs.get i)
        (if (set.inputs.get i).kind = .timecode then some (follow house (set.inputs.get i).rate (set.inputs.get i).drop) else none)) ∧
      (∀ o, let c := set.outputs.get o
        let running (tl : Option Timeline) : OutLane := ⟨.running, some ⟨c, tl, 0⟩, none, some 0, 0, none, none, false⟩
        t.output o = match c with
          | .off => ⟨.off, some ⟨.off, none, 0⟩, none, none, 0, none, none, false⟩
          | .pulse .. | .wordclock .. => running none
          | .timecode r d .follow _ => running (some (follow house r d))
          | .timecode r d (.own origin label) _ =>
            if origin % r.period = 0 then running (some ⟨r, d, origin, label⟩)
            else ⟨.waiting, none, some ⟨c, some ⟨r, d, origin, label⟩, 0⟩, some (origin % r.period), 0, none, none, false⟩) ∧
      t.su.contact = (if s.su.contact = .opened then .opened else .held) ∧ t.su.lockout = none ∧ t.su.ring = [] ∧ t.su.overwritten = 0 ∧ t.su.burst = none ∧
      t.su.pointer = .auto ∧ t.su.hold = none ∧ t.su.flash = set.flash ∧ t.su.panel = set.panel ∧
      (∀ k, t.link k = clearedLink (set.divisors.get k) (set.notices.get k) (s.link k).pause)

/-- R180, R55, R58, R97, R143, R147, R149, R173: DEFAULTS is refused ROLLING while a take rolls; accepted, every block's live
settings are the factory ones, the requesting link's divisor pending and the others' in force. The house timeline changes to
F24, off, 00:00:00:00 from the first multiple of 30,000, unless it has that rate already or the origin tick would exceed the
maximum; the response carries whether it changed and the origin tick. A hold ends where the display source or the hold time
changes. Queued notices stay queued, ahead of those DEFAULTS hands, and are released. The take table, the jam history but for a
change's push, the loose ring, the lockout reference, the slate take pointer and the store are kept. That the lanes act in the
order I0 to I7, and that the reference changes also under HOUSE_FULL, are the model's choice and reading (log entries 28 and
32), and so are the layout of the response and the count of characters the divisor waits for (log entries 6 and 19). -/
def Obligations.DefaultsLoadsFactorySettings : Prop :=
  ∀ (l : LinkId) (s : State), s.TableInv → s.takes l (.defaults l) = true →
    (0 < s.tt.rollingCount → exec (.defaults l) s = .next (s.answered l 0x23#8 (.no .rolling))) ∧
    (s.tt.rollingCount = 0 → ∃ t, exec (.defaults l) s = .next t ∧
      (∀ k, (t.link k).notices = ⟨31#5, 1, 10⟩ ∧ (k ≠ l → (t.link k).divisor = 6 ∧ (t.link k).pendingDivisor = none)) ∧
      let origin := gridAtOrAfter 30000 s.tick
      let changes : Prop := (s.tu.house.rate ≠ .f24 ∨ s.tu.house.drop = true) ∧ origin ≤ Config.maxTick
      (t.link l).divisor = (s.link l).divisor ∧ (t.link l).pendingDivisor = some ⟨6, (s.link l).charsAhead + 11⟩ ∧
      (changes → (t.link l).response = some ⟨frameChars 0xA3#8 ([1#8, 1#8] ++ tickChars origin), 0, none⟩) ∧
      (¬ changes → (t.link l).response = some ⟨frameChars 0xA3#8 (List.replicate 8 0#8), 0, none⟩) ∧
      (∀ k, (s.link k).queue <+: (t.link k).queue ∧ (t.link k).release = decide ((t.link k).queue ≠ [])) ∧
      (s.LinksInv → ∀ k, (t.link k).batchExpiry = none) ∧
      t.su.hold = (if s.su.panel.display = .house ∧ s.su.panel.hold = 1440000 then s.su.hold else none) ∧
      t.hc = { s.hc with
        source := .off, refRate := .f24, loop := .track, trim := 0, state := .off, windowStart := none, edgeCount := 0, lastEdge := none
        nextExpected := none, inTolerance := 0, stale := false, holdoverSince := none } ∧
      t.tu.autoJam = none ∧ t.tu.change = none ∧
      (¬ changes → t.tu.house = s.tu.house ∧ t.tu.history = s.tu.history) ∧
      (changes → t.tu.house = ⟨.f24, false, origin, ⟨0, 0, 0, 0⟩⟩ ∧ t.tu.history = (s.tu.house :: s.tu.history).take 3) ∧
      (∀ i, t.input i = clearedInput factoryInput none) ∧
      (∀ o, t.output o = ⟨.off, some ⟨.off, none, 0⟩, none, none, 0, none, none, false⟩) ∧
      t.su.flash = factoryFlash ∧ t.su.panel = factoryPanel ∧ t.su.lockout = s.su.lockout ∧ t.su.ring = s.su.ring ∧
      t.su.pointer = s.su.pointer ∧ t.su.burst = s.su.burst ∧ t.su.contact = s.su.contact ∧
      t.tt = s.tt ∧ t.store = s.store ∧ t.pending = s.pending)

/-! ### Invariants -/

/-- R24 to R26, R52, R76, R132: every step keeps the clock in its range and the jam history, the capture queues and the loose
ring within their depths. The house tick rises by at most one and never falls, but where the step is a start-up: commanded, or
brought by the last character of an accepted RESTART's response. That the countdown of a RESTART brings the start-up, and that
the queue of commands goes through it, are the model's (log entries 6 and 22). -/
def Obligations.StepKeepsClockAndDepths : Prop :=
  ∀ s t : State, s.ClockInv → s.DepthInv → step s = .next t →
    t.ClockInv ∧ t.DepthInv ∧
    ((s.tick ≤ t.tick ∧ t.tick ≤ s.tick + 1) ∨
      (t = { s with pending := t.pending }.startUp ∧
        (s.pending.head? = some .startUp ∨ ∃ l n, n ≤ 1 ∧ s.pending.head? = some (.characterSent l) ∧ (s.link l).restartAfter = some n)))

/-- R150, R151, R160, R161, R167, R169: every step keeps every link's FIFOs and notice queue within their depth of 32, its hold
output true to its receive FIFO, its transmitter idle with nothing to send, and its release true to its queue, level and batch
expiry. That a sending transmitter has its character at the FIFO's head is the model's reading (log entry 6). -/
def Obligations.StepKeepsLinksSound : Prop := ∀ s t : State, s.LinksInv → step s = .next t → t.LinksInv

/-- R98, R100, R101, R104, R105, R112: every step keeps the take table's ids distinct, its three counts true of its records and
within 64, 8 and 4, at most 16 marks on a record, and no lane in two ROLLING takes. -/
def Obligations.StepKeepsTakeTable : Prop :=
  ∀ s t : State, s.TableInv → s.LanesApart → step s = .next t → t.TableInv ∧ t.LanesApart

/-- R47, R46, R49, R51, R54, R55: while any take rolls, no step changes the house timeline. A step that changes it from a state
whose rolling count is above 0 leaves that count at 0: a CUT or auto-cut that lets a due change apply, or a start-up. What the
queue of commands shows across a start-up is the model's choice (log entry 22). -/
def Obligations.HouseHoldsWhileRolling : Prop :=
  ∀ s t : State, 0 < s.tt.rollingCount → step s = .next t →
    (0 < t.tt.rollingCount → t.tu.house = s.tu.house) ∧
    (t.tu.house ≠ s.tu.house → t.tt.rollingCount = 0 ∧
      ((∃ p, s.tu.change = some p ∧ t.tu.house = p.timeline) ∨ t = { s with pending := t.pending }.startUp))

/-- R98, R107, R112, R119: every step keeps the ticks of every take record in order: an ARMED take has none and no marks; a
ROLLING take has a start and no end; a CUT or CLOSED take has both; start, clap and end follow one another, every mark lies
between start and end, or the current tick while ROLLING, and the marks stand in tick order. -/
def Obligations.StepKeepsTakesInOrder : Prop :=
  ∀ s t : State, s.ClockInv → s.TableInv → s.TakesInOrder → step s = .next t → t.TakesInOrder

/-- The invariants hold right after reset, which is what a start-up of a BLANK part gives (R178). -/
def Obligations.ResetMeetsInvariants : Prop :=
  State.reset.ClockInv ∧ State.reset.DepthInv ∧ State.reset.LinksInv ∧ State.reset.TableInv ∧ State.reset.LanesApart ∧ State.reset.TakesInOrder ∧
    State.reset.startUp = State.reset
end

