-- ==== Sys2Proof/Laws/State.lean ====
section
/-! SUPPORT. The small lemmas of State's updates: what each named update does to each field, and the reads of a lane or a
link after one. Every lemma of a field is true by `rfl`; no later proof needs to unfold a record update. -/

namespace Sys2Proof.Machine

/-! ### Eight lanes and four links -/

@[simp] theorem Eight.get_set_self {α : Type} (v : Eight α) (i : LaneId) (a : α) : (v.set i a).get i = a := by
  match i with
  | 0 | 1 | 2 | 3 | 4 | 5 | 6 | 7 => rfl

theorem Eight.get_set_of_ne {α : Type} (v : Eight α) {i j : LaneId} (h : j ≠ i) (a : α) : (v.set i a).get j = v.get j := by
  match i, j with
  | 0, 1 | 0, 2 | 0, 3 | 0, 4 | 0, 5 | 0, 6 | 0, 7 => rfl
  | 1, 0 | 1, 2 | 1, 3 | 1, 4 | 1, 5 | 1, 6 | 1, 7 => rfl
  | 2, 0 | 2, 1 | 2, 3 | 2, 4 | 2, 5 | 2, 6 | 2, 7 => rfl
  | 3, 0 | 3, 1 | 3, 2 | 3, 4 | 3, 5 | 3, 6 | 3, 7 => rfl
  | 4, 0 | 4, 1 | 4, 2 | 4, 3 | 4, 5 | 4, 6 | 4, 7 => rfl
  | 5, 0 | 5, 1 | 5, 2 | 5, 3 | 5, 4 | 5, 6 | 5, 7 => rfl
  | 6, 0 | 6, 1 | 6, 2 | 6, 3 | 6, 4 | 6, 5 | 6, 7 => rfl
  | 7, 0 | 7, 1 | 7, 2 | 7, 3 | 7, 4 | 7, 5 | 7, 6 => rfl
  | 0, 0 | 1, 1 | 2, 2 | 3, 3 | 4, 4 | 5, 5 | 6, 6 | 7, 7 => exact absurd rfl h

@[simp] theorem Eight.get_map {α β : Type} (f : α → β) (v : Eight α) (i : LaneId) : (v.map f).get i = f (v.get i) := by
  match i with
  | 0 | 1 | 2 | 3 | 4 | 5 | 6 | 7 => rfl

@[simp] theorem Eight.get_same {α : Type} (a : α) (i : LaneId) : (Eight.same a).get i = a := by
  match i with
  | 0 | 1 | 2 | 3 | 4 | 5 | 6 | 7 => rfl

theorem Eight.ext_get {α : Type} {v w : Eight α} (h : ∀ i, v.get i = w.get i) : v = w := by
  cases v
  cases w
  simpa [Eight.get] using ⟨h 0, h 1, h 2, h 3, h 4, h 5, h 6, h 7⟩

@[simp] theorem Four.get_set_self {α : Type} (v : Four α) (l : LinkId) (a : α) : (v.set l a).get l = a := by
  match l with
  | 0 | 1 | 2 | 3 => rfl

theorem Four.get_set_of_ne {α : Type} (v : Four α) {l k : LinkId} (h : k ≠ l) (a : α) : (v.set l a).get k = v.get k := by
  match l, k with
  | 0, 1 | 0, 2 | 0, 3 | 1, 0 | 1, 2 | 1, 3 | 2, 0 | 2, 1 | 2, 3 | 3, 0 | 3, 1 | 3, 2 => rfl
  | 0, 0 | 1, 1 | 2, 2 | 3, 3 => exact absurd rfl h

@[simp] theorem Four.get_map {α β : Type} (f : α → β) (v : Four α) (l : LinkId) : (v.map f).get l = f (v.get l) := by
  match l with
  | 0 | 1 | 2 | 3 => rfl

@[simp] theorem Four.get_same {α : Type} (a : α) (l : LinkId) : (Four.same a).get l = a := by
  match l with
  | 0 | 1 | 2 | 3 => rfl

theorem Four.ext_get {α : Type} {v w : Four α} (h : ∀ l, v.get l = w.get l) : v = w := by
  cases v
  cases w
  simpa [Four.get] using ⟨h 0, h 1, h 2, h 3⟩

@[simp] theorem Four.set_set {α : Type} (v : Four α) (l : LinkId) (a b : α) : (v.set l a).set l b = v.set l b := by
  match l with
  | 0 | 1 | 2 | 3 => rfl

@[simp] theorem Eight.set_set {α : Type} (v : Eight α) (i : LaneId) (a b : α) : (v.set i a).set i b = v.set i b := by
  match i with
  | 0 | 1 | 2 | 3 | 4 | 5 | 6 | 7 => rfl

/-! ### One lemma per field per update -/

section modInput

variable (s : State) (i : LaneId) (f : InLane → InLane)

@[simp] theorem State.modInput_pending : (s.modInput i f).pending = s.pending := rfl
@[simp] theorem State.modInput_hc : (s.modInput i f).hc = s.hc := rfl
@[simp] theorem State.modInput_tu : (s.modInput i f).tu = s.tu := rfl
@[simp] theorem State.modInput_outputs : (s.modInput i f).outputs = s.outputs := rfl
@[simp] theorem State.modInput_tt : (s.modInput i f).tt = s.tt := rfl
@[simp] theorem State.modInput_su : (s.modInput i f).su = s.su := rfl
@[simp] theorem State.modInput_links : (s.modInput i f).links = s.links := rfl
@[simp] theorem State.modInput_store : (s.modInput i f).store = s.store := rfl
@[simp] theorem State.modInput_tick : (s.modInput i f).tick = s.tick := rfl
@[simp] theorem State.modInput_output (j : LaneId) : (s.modInput i f).output j = s.output j := rfl
@[simp] theorem State.modInput_link (k : LinkId) : (s.modInput i f).link k = s.link k := rfl
@[simp] theorem State.modInput_input_self : (s.modInput i f).input i = f (s.input i) := Eight.get_set_self _ _ _
theorem State.modInput_input_of_ne {j : LaneId} (h : j ≠ i) : (s.modInput i f).input j = s.input j :=
  Eight.get_set_of_ne _ h _

end modInput

section modOutput

variable (s : State) (o : LaneId) (f : OutLane → OutLane)

@[simp] theorem State.modOutput_pending : (s.modOutput o f).pending = s.pending := rfl
@[simp] theorem State.modOutput_hc : (s.modOutput o f).hc = s.hc := rfl
@[simp] theorem State.modOutput_tu : (s.modOutput o f).tu = s.tu := rfl
@[simp] theorem State.modOutput_inputs : (s.modOutput o f).inputs = s.inputs := rfl
@[simp] theorem State.modOutput_tt : (s.modOutput o f).tt = s.tt := rfl
@[simp] theorem State.modOutput_su : (s.modOutput o f).su = s.su := rfl
@[simp] theorem State.modOutput_links : (s.modOutput o f).links = s.links := rfl
@[simp] theorem State.modOutput_store : (s.modOutput o f).store = s.store := rfl
@[simp] theorem State.modOutput_tick : (s.modOutput o f).tick = s.tick := rfl
@[simp] theorem State.modOutput_input (j : LaneId) : (s.modOutput o f).input j = s.input j := rfl
@[simp] theorem State.modOutput_link (k : LinkId) : (s.modOutput o f).link k = s.link k := rfl
@[simp] theorem State.modOutput_output_self : (s.modOutput o f).output o = f (s.output o) := Eight.get_set_self _ _ _
theorem State.modOutput_output_of_ne {j : LaneId} (h : j ≠ o) : (s.modOutput o f).output j = s.output j :=
  Eight.get_set_of_ne _ h _

end modOutput

section modLink

variable (s : State) (l : LinkId) (f : LinkPort → LinkPort)

@[simp] theorem State.modLink_pending : (s.modLink l f).pending = s.pending := rfl
@[simp] theorem State.modLink_hc : (s.modLink l f).hc = s.hc := rfl
@[simp] theorem State.modLink_tu : (s.modLink l f).tu = s.tu := rfl
@[simp] theorem State.modLink_inputs : (s.modLink l f).inputs = s.inputs := rfl
@[simp] theorem State.modLink_outputs : (s.modLink l f).outputs = s.outputs := rfl
@[simp] theorem State.modLink_tt : (s.modLink l f).tt = s.tt := rfl
@[simp] theorem State.modLink_su : (s.modLink l f).su = s.su := rfl
@[simp] theorem State.modLink_store : (s.modLink l f).store = s.store := rfl
@[simp] theorem State.modLink_tick : (s.modLink l f).tick = s.tick := rfl
@[simp] theorem State.modLink_input (j : LaneId) : (s.modLink l f).input j = s.input j := rfl
@[simp] theorem State.modLink_output (j : LaneId) : (s.modLink l f).output j = s.output j := rfl
@[simp] theorem State.modLink_link_self : (s.modLink l f).link l = f (s.link l) := Four.get_set_self _ _ _
theorem State.modLink_link_of_ne {k : LinkId} (h : k ≠ l) : (s.modLink l f).link k = s.link k :=
  Four.get_set_of_ne _ h _

end modLink

section modHc

variable (s : State) (f : HouseClock → HouseClock)

@[simp] theorem State.modHc_pending : (s.modHc f).pending = s.pending := rfl
@[simp] theorem State.modHc_tu : (s.modHc f).tu = s.tu := rfl
@[simp] theorem State.modHc_inputs : (s.modHc f).inputs = s.inputs := rfl
@[simp] theorem State.modHc_outputs : (s.modHc f).outputs = s.outputs := rfl
@[simp] theorem State.modHc_tt : (s.modHc f).tt = s.tt := rfl
@[simp] theorem State.modHc_su : (s.modHc f).su = s.su := rfl
@[simp] theorem State.modHc_links : (s.modHc f).links = s.links := rfl
@[simp] theorem State.modHc_store : (s.modHc f).store = s.store := rfl
@[simp] theorem State.modHc_hc : (s.modHc f).hc = f s.hc := rfl
@[simp] theorem State.modHc_input (j : LaneId) : (s.modHc f).input j = s.input j := rfl
@[simp] theorem State.modHc_output (j : LaneId) : (s.modHc f).output j = s.output j := rfl
@[simp] theorem State.modHc_link (k : LinkId) : (s.modHc f).link k = s.link k := rfl

end modHc

section modTu

variable (s : State) (f : TimelineUnit → TimelineUnit)

@[simp] theorem State.modTu_pending : (s.modTu f).pending = s.pending := rfl
@[simp] theorem State.modTu_hc : (s.modTu f).hc = s.hc := rfl
@[simp] theorem State.modTu_inputs : (s.modTu f).inputs = s.inputs := rfl
@[simp] theorem State.modTu_outputs : (s.modTu f).outputs = s.outputs := rfl
@[simp] theorem State.modTu_tt : (s.modTu f).tt = s.tt := rfl
@[simp] theorem State.modTu_su : (s.modTu f).su = s.su := rfl
@[simp] theorem State.modTu_links : (s.modTu f).links = s.links := rfl
@[simp] theorem State.modTu_store : (s.modTu f).store = s.store := rfl
@[simp] theorem State.modTu_tu : (s.modTu f).tu = f s.tu := rfl
@[simp] theorem State.modTu_tick : (s.modTu f).tick = s.tick := rfl
@[simp] theorem State.modTu_input (j : LaneId) : (s.modTu f).input j = s.input j := rfl
@[simp] theorem State.modTu_output (j : LaneId) : (s.modTu f).output j = s.output j := rfl
@[simp] theorem State.modTu_link (k : LinkId) : (s.modTu f).link k = s.link k := rfl

end modTu

section modTt

variable (s : State) (f : TakeTable → TakeTable)

@[simp] theorem State.modTt_pending : (s.modTt f).pending = s.pending := rfl
@[simp] theorem State.modTt_hc : (s.modTt f).hc = s.hc := rfl
@[simp] theorem State.modTt_tu : (s.modTt f).tu = s.tu := rfl
@[simp] theorem State.modTt_inputs : (s.modTt f).inputs = s.inputs := rfl
@[simp] theorem State.modTt_outputs : (s.modTt f).outputs = s.outputs := rfl
@[simp] theorem State.modTt_su : (s.modTt f).su = s.su := rfl
@[simp] theorem State.modTt_links : (s.modTt f).links = s.links := rfl
@[simp] theorem State.modTt_store : (s.modTt f).store = s.store := rfl
@[simp] theorem State.modTt_tt : (s.modTt f).tt = f s.tt := rfl
@[simp] theorem State.modTt_tick : (s.modTt f).tick = s.tick := rfl
@[simp] theorem State.modTt_input (j : LaneId) : (s.modTt f).input j = s.input j := rfl
@[simp] theorem State.modTt_output (j : LaneId) : (s.modTt f).output j = s.output j := rfl
@[simp] theorem State.modTt_link (k : LinkId) : (s.modTt f).link k = s.link k := rfl

end modTt

section modSu

variable (s : State) (f : SlateUnit → SlateUnit)

@[simp] theorem State.modSu_pending : (s.modSu f).pending = s.pending := rfl
@[simp] theorem State.modSu_hc : (s.modSu f).hc = s.hc := rfl
@[simp] theorem State.modSu_tu : (s.modSu f).tu = s.tu := rfl
@[simp] theorem State.modSu_inputs : (s.modSu f).inputs = s.inputs := rfl
@[simp] theorem State.modSu_outputs : (s.modSu f).outputs = s.outputs := rfl
@[simp] theorem State.modSu_tt : (s.modSu f).tt = s.tt := rfl
@[simp] theorem State.modSu_links : (s.modSu f).links = s.links := rfl
@[simp] theorem State.modSu_store : (s.modSu f).store = s.store := rfl
@[simp] theorem State.modSu_su : (s.modSu f).su = f s.su := rfl
@[simp] theorem State.modSu_tick : (s.modSu f).tick = s.tick := rfl
@[simp] theorem State.modSu_input (j : LaneId) : (s.modSu f).input j = s.input j := rfl
@[simp] theorem State.modSu_output (j : LaneId) : (s.modSu f).output j = s.output j := rfl
@[simp] theorem State.modSu_link (k : LinkId) : (s.modSu f).link k = s.link k := rfl

end modSu

section modStore

variable (s : State) (f : SettingsStore → SettingsStore)

@[simp] theorem State.modStore_pending : (s.modStore f).pending = s.pending := rfl
@[simp] theorem State.modStore_hc : (s.modStore f).hc = s.hc := rfl
@[simp] theorem State.modStore_tu : (s.modStore f).tu = s.tu := rfl
@[simp] theorem State.modStore_inputs : (s.modStore f).inputs = s.inputs := rfl
@[simp] theorem State.modStore_outputs : (s.modStore f).outputs = s.outputs := rfl
@[simp] theorem State.modStore_tt : (s.modStore f).tt = s.tt := rfl
@[simp] theorem State.modStore_su : (s.modStore f).su = s.su := rfl
@[simp] theorem State.modStore_links : (s.modStore f).links = s.links := rfl
@[simp] theorem State.modStore_store : (s.modStore f).store = f s.store := rfl
@[simp] theorem State.modStore_tick : (s.modStore f).tick = s.tick := rfl
@[simp] theorem State.modStore_input (j : LaneId) : (s.modStore f).input j = s.input j := rfl
@[simp] theorem State.modStore_output (j : LaneId) : (s.modStore f).output j = s.output j := rfl
@[simp] theorem State.modStore_link (k : LinkId) : (s.modStore f).link k = s.link k := rfl

end modStore

section post

variable (s : State) (b : NoticeBody)

@[simp] theorem State.post_pending : (s.post b).pending = s.pending := rfl
@[simp] theorem State.post_hc : (s.post b).hc = s.hc := rfl
@[simp] theorem State.post_tu : (s.post b).tu = s.tu := rfl
@[simp] theorem State.post_inputs : (s.post b).inputs = s.inputs := rfl
@[simp] theorem State.post_outputs : (s.post b).outputs = s.outputs := rfl
@[simp] theorem State.post_tt : (s.post b).tt = s.tt := rfl
@[simp] theorem State.post_su : (s.post b).su = s.su := rfl
@[simp] theorem State.post_store : (s.post b).store = s.store := rfl
@[simp] theorem State.post_tick : (s.post b).tick = s.tick := rfl
@[simp] theorem State.post_input (j : LaneId) : (s.post b).input j = s.input j := rfl
@[simp] theorem State.post_output (j : LaneId) : (s.post b).output j = s.output j := rfl
@[simp] theorem State.post_link (k : LinkId) : (s.post b).link k = (s.link k).offer ⟨b, s.tick⟩ s.tick := Four.get_map _ _ _

end post

section markChanged

variable (s : State) (i : LaneId)

@[simp] theorem State.markChanged_pending : (s.markChanged i).pending = s.pending := rfl
@[simp] theorem State.markChanged_hc : (s.markChanged i).hc = s.hc := rfl
@[simp] theorem State.markChanged_tu : (s.markChanged i).tu = s.tu := rfl
@[simp] theorem State.markChanged_inputs : (s.markChanged i).inputs = s.inputs := rfl
@[simp] theorem State.markChanged_outputs : (s.markChanged i).outputs = s.outputs := rfl
@[simp] theorem State.markChanged_tt : (s.markChanged i).tt = s.tt := rfl
@[simp] theorem State.markChanged_su : (s.markChanged i).su = s.su := rfl
@[simp] theorem State.markChanged_store : (s.markChanged i).store = s.store := rfl
@[simp] theorem State.markChanged_tick : (s.markChanged i).tick = s.tick := rfl
@[simp] theorem State.markChanged_input (j : LaneId) : (s.markChanged i).input j = s.input j := rfl
@[simp] theorem State.markChanged_output (j : LaneId) : (s.markChanged i).output j = s.output j := rfl
@[simp] theorem State.markChanged_link (k : LinkId) :
    (s.markChanged i).link k = { s.link k with changed := (s.link k).changed ||| (1#8 <<< i.val) } := Four.get_map _ _ _

end markChanged

section modTake

variable (s : State) (id : Nat) (f : Take → Take)

@[simp] theorem State.modTake_pending : (s.modTake id f).pending = s.pending := rfl
@[simp] theorem State.modTake_hc : (s.modTake id f).hc = s.hc := rfl
@[simp] theorem State.modTake_tu : (s.modTake id f).tu = s.tu := rfl
@[simp] theorem State.modTake_inputs : (s.modTake id f).inputs = s.inputs := rfl
@[simp] theorem State.modTake_outputs : (s.modTake id f).outputs = s.outputs := rfl
@[simp] theorem State.modTake_su : (s.modTake id f).su = s.su := rfl
@[simp] theorem State.modTake_links : (s.modTake id f).links = s.links := rfl
@[simp] theorem State.modTake_store : (s.modTake id f).store = s.store := rfl
@[simp] theorem State.modTake_tick : (s.modTake id f).tick = s.tick := rfl
@[simp] theorem State.modTake_input (j : LaneId) : (s.modTake id f).input j = s.input j := rfl
@[simp] theorem State.modTake_output (j : LaneId) : (s.modTake id f).output j = s.output j := rfl
@[simp] theorem State.modTake_link (k : LinkId) : (s.modTake id f).link k = s.link k := rfl

end modTake

end Sys2Proof.Machine
end

