-- ==== Sys2Proof/Laws/Ops.lean ====
section
/-! SUPPORT. What each shared operation can do, said once: characters of numbers, frames, taking and answering a request, handing over a
notice, the transmit path and the take look-ups. Later proofs cite these and unfold none of the operations. -/

namespace Sys2Proof

/-! ### Characters of numbers (11.4) -/

@[simp] theorem bytesOf_length (n v : Nat) : (bytesOf n v).length = n := by
  induction n with
  | zero => rfl
  | succ n ih => simp [bytesOf, ih]

theorem natOf_foldl (cs : List Byte) (a : Nat) :
    cs.foldl (fun a c => a * 256 + c.toNat) a = a * 256 ^ cs.length + natOf cs := by
  induction cs generalizing a with
  | nil => simp [natOf]
  | cons c cs ih =>
    have h := ih (0 * 256 + c.toNat)
    simp only [natOf, List.foldl_cons, List.length_cons] at *
    rw [ih, h]
    ring

theorem natOf_cons (c : Byte) (cs : List Byte) : natOf (c :: cs) = c.toNat * 256 ^ cs.length + natOf cs := by
  have h := natOf_foldl cs (0 * 256 + c.toNat)
  simpa [natOf] using h

/-- 11.4: the characters of a number spell that number, as far as its width reaches. -/
theorem natOf_bytesOf (n v : Nat) : natOf (bytesOf n v) = v % 256 ^ n := by
  induction n with
  | zero => simp [bytesOf, natOf, Nat.mod_one]
  | succ n ih =>
    have hm : v % (256 ^ n * 256) = v % 256 ^ n + 256 ^ n * (v / 256 ^ n % 256) := Nat.mod_mul
    have hs : 256 ^ (n + 1) = 256 ^ n * 256 := rfl
    rw [bytesOf, natOf_cons, ih, bytesOf_length, BitVec.toNat_ofNat, hs, hm, Nat.mul_comm (256 ^ n), Nat.add_comm]

@[simp] theorem slice_length (body : List Byte) (k n : Nat) : (slice body k n).length = min n (body.length - k) := by
  simp [slice]

namespace Machine

/-! ### Frames (R153) -/

theorem frameChars_eq (lead : Byte) (body : List Byte) :
    frameChars lead body = ⟨lead, true⟩ :: (char body.length :: body ++ [checkChar lead body]).map (fun c => ⟨c, false⟩) := rfl

@[simp] theorem frameChars_length (lead : Byte) (body : List Byte) : (frameChars lead body).length = body.length + 3 := by
  simp [frameChars]

/-- R153, R159: the length of a response frame. -/
theorem Reply.frame_length (kind : Byte) (r : Reply) :
    (r.frame kind).length = match r with
      | .accepted body _ => body.length + 3
      | .refused _ _ => 5 := by
  cases r <;> simp [Reply.frame]

/-! ### Answering (R158, R159) -/

section answer

variable (p : LinkPort) (kind : Byte) (r : Reply)

@[simp] theorem LinkPort.answer_response : (p.answer kind r).response = some ⟨r.frame kind, 0, r.carried⟩ := by
  cases r with
  | accepted body after => cases after <;> rfl
  | refused code c => rfl

@[simp] theorem LinkPort.answer_rx : (p.answer kind r).rx = p.rx := by
  cases r with
  | accepted body after => cases after <;> rfl
  | refused code c => rfl

@[simp] theorem LinkPort.answer_tx : (p.answer kind r).tx = p.tx := by
  cases r with
  | accepted body after => cases after <;> rfl
  | refused code c => rfl

@[simp] theorem LinkPort.answer_hold : (p.answer kind r).hold = p.hold := by
  cases r with
  | accepted body after => cases after <;> rfl
  | refused code c => rfl

@[simp] theorem LinkPort.answer_sending : (p.answer kind r).sending = p.sending := by
  cases r with
  | accepted body after => cases after <;> rfl
  | refused code c => rfl

@[simp] theorem LinkPort.answer_feeder : (p.answer kind r).feeder = p.feeder := by
  cases r with
  | accepted body after => cases after <;> rfl
  | refused code c => rfl

@[simp] theorem LinkPort.answer_queue : (p.answer kind r).queue = p.queue := by
  cases r with
  | accepted body after => cases after <;> rfl
  | refused code c => rfl

@[simp] theorem LinkPort.answer_release : (p.answer kind r).release = p.release := by
  cases r with
  | accepted body after => cases after <;> rfl
  | refused code c => rfl

@[simp] theorem LinkPort.answer_batchExpiry : (p.answer kind r).batchExpiry = p.batchExpiry := by
  cases r with
  | accepted body after => cases after <;> rfl
  | refused code c => rfl

@[simp] theorem LinkPort.answer_notices : (p.answer kind r).notices = p.notices := by
  cases r with
  | accepted body after => cases after <;> rfl
  | refused code c => rfl

@[simp] theorem LinkPort.answer_assembler : (p.answer kind r).assembler = p.assembler := by
  cases r with
  | accepted body after => cases after <;> rfl
  | refused code c => rfl

end answer

/-- R158: leaving DONE touches the assembler alone, and leaves it out of DONE. -/
theorem LinkPort.leaveDone_eq (p : LinkPort) :
    ∃ a, p.leaveDone = { p with assembler := a } ∧ a.isDone = false ∧ (p.assembler.isDone = false → a = p.assembler) := by
  cases h : p.assembler with
  | done held => exact ⟨.idle, by simp [LinkPort.leaveDone, h], rfl, by simp [Assembler.isDone]⟩
  | idle | length k | body k n got | check k got =>
    have hp : p.leaveDone = p := by simp only [LinkPort.leaveDone, h]
    exact ⟨p.assembler, hp, by simp [h, Assembler.isDone], fun _ => h⟩

/-! ### Taking a request (R158) -/

/-- A request whose frame the table allows, taken: the owning block acts and its reply becomes the waiting response. -/
theorem takeRequest_taken {l : LinkId} {c : Instr} {act : State → State × Reply} {s : State} (h : s.takes l c = true)
    (hj : judgedFrame (requestFrame c).1 (requestFrame c).2 = .request (requestFrame c).1 (requestFrame c).2) :
    takeRequest l c act s =
      (act (s.modLink l LinkPort.leaveDone)).1.modLink l
        (fun p => p.answer (requestFrame c).1 (act (s.modLink l LinkPort.leaveDone)).2) := by
  unfold takeRequest
  simp only [State.takes] at h
  simp [h, hj]

/-- A request that cannot be taken while the link is free changes nothing. -/
theorem takeRequest_ignored {l : LinkId} {c : Instr} {act : State → State × Reply} {s : State} (h : s.takes l c = false)
    (hf : (s.link l).free = true) : takeRequest l c act s = s := by
  unfold takeRequest
  simp only [State.takes] at h
  simp [h, hf]

/-- A request that reaches a link which is not free is held in DONE where the assembler can hold it. -/
theorem takeRequest_held {l : LinkId} {c : Instr} {act : State → State × Reply} {s : State} (hf : (s.link l).free = false) :
    takeRequest l c act s =
      s.modLink l (fun p => p.holdOutcome (judgedFrame (requestFrame c).1 (requestFrame c).2)) := by
  unfold takeRequest
  simp [LinkPort.canTake, hf]

/-- Taking a request leaves the queue of commands alone if its owning block does. -/
theorem takeRequest_pending {l : LinkId} {c : Instr} {act : State → State × Reply}
    (h : ∀ s, (act s).1.pending = s.pending) (s : State) : (takeRequest l c act s).pending = s.pending := by
  unfold takeRequest
  dsimp only
  split
  · cases judgedFrame (requestFrame c).1 (requestFrame c).2 <;> simp [h]
  · split <;> simp


/-! ### Notices (R166 to R169) -/

/-- R166, R167: everything a notice offered to a link can do. -/
theorem LinkPort.offer_cases (p : LinkPort) (n : Notice) (now : Nat) :
    (p.subscribes n.body.noticeClass = false ∧ p.offer n now = p) ∨
    (p.subscribes n.body.noticeClass = true ∧ p.queue.length < Config.fifoDepth ∧ p.offer n now = p.enqueue n now) ∨
    (p.subscribes n.body.noticeClass = true ∧ Config.fifoDepth ≤ p.queue.length ∧ p.offer n now = { p with gap := true }) := by
  unfold LinkPort.offer
  cases hs : p.subscribes n.body.noticeClass
  · exact .inl ⟨rfl, rfl⟩
  · by_cases hq : p.queue.length < Config.fifoDepth
    · exact .inr (.inl ⟨rfl, hq, by simp [hq]⟩)
    · exact .inr (.inr ⟨rfl, by omega, by simp [hq]⟩)

/-! ### Leaving DONE commutes with what a block does -/

section commute

variable (s : State) (l : LinkId)

@[simp] theorem Four.set_map {α β : Type} (f : α → β) (v : Four α) (k : LinkId) (a : α) :
    (v.set k a).map f = (v.map f).set k (f a) := by
  match k with
  | 0 | 1 | 2 | 3 => rfl

/-- Two updates of one link are one. -/
@[simp] theorem State.modLink_modLink (f g : LinkPort → LinkPort) : (s.modLink l f).modLink l g = s.modLink l (fun p => g (f p)) := by
  simp [State.modLink, State.link]

theorem LinkPort.offer_leaveDone (p : LinkPort) (n : Notice) (now : Nat) : p.leaveDone.offer n now = (p.offer n now).leaveDone := by
  obtain ⟨a, ha, -, -⟩ := p.leaveDone_eq
  have h0 : p.leaveDone.subscribes n.body.noticeClass = p.subscribes n.body.noticeClass := by rw [ha]; rfl
  rcases p.offer_cases n now with ⟨hs, h⟩ | ⟨hs, hq, h⟩ | ⟨hs, hq, h⟩ <;> rw [h]
  · rw [← h0] at hs
    simp [LinkPort.offer, hs]
  all_goals
    cases hp : p.assembler <;> simp [LinkPort.leaveDone, LinkPort.offer, LinkPort.enqueue, LinkPort.subscribes, hp] at * <;>
      simp [hs, hq]

/-- Handing over a notice and leaving DONE commute. -/
theorem State.post_leaveDone (b : NoticeBody) : (s.modLink l LinkPort.leaveDone).post b = (s.post b).modLink l LinkPort.leaveDone := by
  simp [State.post, State.modLink, State.link, LinkPort.offer_leaveDone]

theorem State.modHc_modLink (f : HouseClock → HouseClock) (g : LinkPort → LinkPort) :
    (s.modLink l g).modHc f = (s.modHc f).modLink l g := rfl

theorem State.modTu_modLink (f : TimelineUnit → TimelineUnit) (g : LinkPort → LinkPort) :
    (s.modLink l g).modTu f = (s.modTu f).modLink l g := rfl

theorem State.modTt_modLink (f : TakeTable → TakeTable) (g : LinkPort → LinkPort) :
    (s.modLink l g).modTt f = (s.modTt f).modLink l g := rfl

theorem State.modSu_modLink (f : SlateUnit → SlateUnit) (g : LinkPort → LinkPort) :
    (s.modLink l g).modSu f = (s.modSu f).modLink l g := rfl

theorem State.modStore_modLink (f : SettingsStore → SettingsStore) (g : LinkPort → LinkPort) :
    (s.modLink l g).modStore f = (s.modStore f).modLink l g := rfl

theorem State.modInput_modLink (i : LaneId) (f : InLane → InLane) (g : LinkPort → LinkPort) :
    (s.modLink l g).modInput i f = (s.modInput i f).modLink l g := rfl

theorem State.modOutput_modLink (o : LaneId) (f : OutLane → OutLane) (g : LinkPort → LinkPort) :
    (s.modLink l g).modOutput o f = (s.modOutput o f).modLink l g := rfl

theorem State.modTake_modLink (id : Nat) (f : Take → Take) (g : LinkPort → LinkPort) :
    (s.modLink l g).modTake id f = (s.modTake id f).modLink l g := rfl

/-- A reply that becomes the waiting response once DONE has been left is an answer. -/
theorem State.leaveDone_answer (kind : Byte) (r : Reply) :
    (s.modLink l LinkPort.leaveDone).modLink l (fun p => p.answer kind r) = s.answered l kind r := by
  simp [State.answered]

end commute

/-! ### What a queue gains -/

@[simp] theorem LinkPort.enqueue_queue (p : LinkPort) (n : Notice) (now : Nat) :
    (p.enqueue n now).queue = p.queue ++ [⟨n, p.gap, now⟩] := rfl

@[simp] theorem LinkPort.enqueue_gap (p : LinkPort) (n : Notice) (now : Nat) : (p.enqueue n now).gap = false := rfl

@[simp] theorem LinkPort.enqueue_release (p : LinkPort) (n : Notice) (now : Nat) :
    (p.enqueue n now).release = (p.release || decide (p.notices.level ≤ p.queue.length + 1)) := by
  simp [LinkPort.enqueue]

/-- R166: what a hand-over leaves alone on every link. -/
theorem LinkPort.offer_keeps (p : LinkPort) (n : Notice) (now : Nat) :
    (p.offer n now).rx = p.rx ∧ (p.offer n now).tx = p.tx ∧ (p.offer n now).hold = p.hold ∧
    (p.offer n now).sending = p.sending ∧ (p.offer n now).feeder = p.feeder ∧ (p.offer n now).notices = p.notices ∧
    (p.offer n now).assembler = p.assembler ∧ (p.offer n now).response = p.response ∧
    (p.offer n now).changed = p.changed ∧ (p.offer n now).divisor = p.divisor := by
  rcases p.offer_cases n now with ⟨-, h⟩ | ⟨-, -, h⟩ | ⟨-, -, h⟩ <;> rw [h] <;> simp [LinkPort.enqueue]

/-! ### The receive and transmit paths (R151, R160, R161) -/

@[simp] theorem LinkPort.withRx_rx (p : LinkPort) (rx : List RxChar) : (p.withRx rx).rx = rx := rfl

@[simp] theorem LinkPort.withRx_hold (p : LinkPort) (rx : List RxChar) : (p.withRx rx).hold = holdAfter p.hold rx.length := rfl

/-- R151: the hold output agrees with the count wherever the count decides it. -/
theorem holdAfter_bounds (held : Bool) (n : Nat) : (24 ≤ n → holdAfter held n = true) ∧ (n ≤ 8 → holdAfter held n = false) := by
  constructor
  · intro h
    simp [holdAfter, h]
  · intro h
    have h' : ¬ 24 ≤ n := by omega
    simp [holdAfter, h, h']

@[simp] theorem LinkPort.pushTx_tx (p : LinkPort) (c : TxChar) : (p.pushTx c).tx = p.tx ++ [c] := rfl

@[simp] theorem LinkPort.finishChar_tx (p : LinkPort) : p.finishChar.tx = p.tx.drop 1 := rfl

/-! ### Takes -/

/-- The record an id finds is in the table and holds the id. -/
theorem State.take?_some {s : State} {id : Nat} {t : Take} (h : s.take? id = some t) : t ∈ s.tt.takes ∧ t.id = id :=
  ⟨List.mem_of_find?_eq_some h, by simpa using List.find?_some h⟩

@[simp] theorem State.modTake_takes (s : State) (id : Nat) (f : Take → Take) :
    (s.modTake id f).tt.takes = s.tt.takes.map (fun k => if k.id = id then f k else k) := rfl

@[simp] theorem State.modTake_counts (s : State) (id : Nat) (f : Take → Take) :
    (s.modTake id f).tt.tableCount = s.tt.tableCount ∧ (s.modTake id f).tt.openCount = s.tt.openCount ∧
    (s.modTake id f).tt.rollingCount = s.tt.rollingCount ∧ (s.modTake id f).tt.rollOrder = s.tt.rollOrder := ⟨rfl, rfl, rfl, rfl⟩

/-! ### Bounded counters (R26, R72, R99) -/

theorem clampTrim_inRange (v : Int) : trimInRange (clampTrim v) := by
  unfold trimInRange clampTrim Config.trimLimit
  omega

theorem bump_le (n : Nat) : bump n ≤ 65535 := by
  unfold bump
  omega

theorem bumpByte_le (n : Nat) : bumpByte n ≤ 255 := by
  unfold bumpByte
  omega

end Machine

end Sys2Proof
end

