-- ==== Sys2Proof/Laws/Lanes.lean ====
section
/-! SUPPORT. What the operations of the input lanes and the take ids can do, said once: the fields that capture and statistics keep, the
lanes that the House Clock leaves alone, the one form of a good arrival before its tracking, the stamp of a lane clap, and the search for a
free id. Later proofs cite these and unfold none of the operations. -/

namespace Sys2Proof.Machine

variable (s : State) (i : LaneId)

/-! ### Updates of one lane -/

@[simp] theorem State.modInput_modInput (f g : InLane → InLane) : (s.modInput i f).modInput i g = s.modInput i (fun v => g (f v)) := by
  simp [State.modInput, State.input]

theorem State.modInput_congr {f g : InLane → InLane} (h : f (s.input i) = g (s.input i)) : s.modInput i f = s.modInput i g := by
  simp [State.modInput, h]

/-! ### Capture and statistics (R71, R77) -/

variable (v : InLane)

/-- R77: capture touches the queue, its mode and OVERRUN only. -/
theorem InLane.offerCapture_keeps (c : Captured) :
    v.offerCapture c =
      { v with
        captured := (v.offerCapture c).captured
        captureMode := (v.offerCapture c).captureMode
        overrun := (v.offerCapture c).overrun } := by
  unfold InLane.offerCapture
  split
  · rfl
  · split
    · rfl
    · split <;> rfl
  · split
    · rfl
    · split <;> rfl

/-- R71: an offset touches the last offset and the two windows only. -/
theorem InLane.addOffset_keeps (off : Int) (arrival : Nat) :
    v.addOffset off arrival =
      { v with
        lastOffset := some off
        window := (v.addOffset off arrival).window
        published := (v.addOffset off arrival).published } := by
  unfold InLane.addOffset
  dsimp only
  split <;> rfl

/-- R71: what the lane holds as its latest word has no part in the statistics. -/
theorem InLane.addOffset_latest (off : Int) (arrival : Nat) (w : Option LatestWord) :
    ({ v with latest := w } : InLane).addOffset off arrival = { v.addOffset off arrival with latest := w } := by
  unfold InLane.addOffset
  dsimp only
  split <;> rfl

/-! ### The House Clock (R27) -/

@[simp] theorem State.reportReference_inputs (old : HouseClock) : (s.reportReference old).inputs = s.inputs := by
  unfold State.reportReference
  split <;> rfl

/-- R27: an edge handed to the House Clock leaves every input lane alone. -/
@[simp] theorem State.laneEdge_inputs : (s.laneEdge i).inputs = s.inputs := by
  unfold State.laneEdge
  split
  · unfold State.takeEdge
    split
    · rfl
    · dsimp only
      split <;> simp
  · rfl

/-! ### A good arrival (R60, R71, R72, R75) -/

/-- R60, R71, R72, R75, R77: a good arrival once: the record, the edge, then the tracking with the missed run as it stood. -/
theorem State.goodArrival_eq (c : Captured) (g : GoodArrival) (off : Int) (follows : Nat → Bool) (hc : c.tag = .good)
    (ht : c.arrival = s.tick) (hg : g.arrival = s.tick) :
    (s.recordArrival i c).goodArrival i g off follows =
      ((s.modInput i (fun v =>
        { (v.offerCapture c).addOffset off s.tick with
          latest := some ⟨.good, s.tick⟩
          good := some g
          counters := { v.counters with good := bump v.counters.good } })).laneEdge i).track i g off (follows 1)
        (follows (1 + (s.input i).missed)) := by
  have hm : ((s.recordArrival i c).input i).missed = (s.input i).missed := by
    rw [State.recordArrival, State.modInput_input_self, InLane.offerCapture_keeps]
  have hr : ((s.recordArrival i c).modInput i (fun v => { (v.addOffset off g.arrival) with good := some g })).count i
      (fun c => { c with good := bump c.good }) = s.modInput i (fun v =>
        { (v.offerCapture c).addOffset off s.tick with
          latest := some ⟨.good, s.tick⟩
          good := some g
          counters := { v.counters with good := bump v.counters.good } }) := by
    simp only [State.recordArrival, State.count, State.modInput_modInput, hc, ht, hg, InLane.addOffset_latest]
    apply State.modInput_congr
    rw [InLane.addOffset_keeps, InLane.offerCapture_keeps]
  rw [← hr]
  simp only [State.goodArrival, hm]

/-! ### The stamp of a lane clap (R74, R146) -/

@[simp] theorem State.clapStamp_full {s : State} (h : s.hc.full = true) (stamp : Nat) : s.clapStamp stamp = Config.maxTick := by
  simp [State.clapStamp, h]

@[simp] theorem State.clapStamp_running {s : State} (h : s.hc.full = false) (stamp : Nat) : s.clapStamp stamp = stamp := by
  simp [State.clapStamp, h]

/-! ### A free id (R101) -/

/-- R101: the search from an id in range answers the first candidate, wrapping from 65,535 to 1, that is not held, within its fuel. -/
theorem freeId_spec (held : List Nat) (fuel id : Nat) (h1 : 1 ≤ id) (h2 : id ≤ 65535) :
    ∃ k, k ≤ fuel ∧ freeId held fuel id = (id - 1 + k) % 65535 + 1 ∧ (∀ j, j < k → (id - 1 + j) % 65535 + 1 ∈ held) ∧
      (k < fuel → (id - 1 + k) % 65535 + 1 ∉ held) := by
  induction fuel generalizing id with
  | zero => exact ⟨0, by omega, by simp [freeId]; omega, by omega, by omega⟩
  | succ n ih =>
    have h0 : (id - 1 + 0) % 65535 + 1 = id := by omega
    by_cases hh : id ∈ held
    · have e : ∀ j, ((if id = 65535 then 1 else id + 1) - 1 + j) % 65535 + 1 = (id - 1 + (j + 1)) % 65535 + 1 := by
        intro j
        split <;> omega
      obtain ⟨k, hk, hf, hin, hout⟩ := ih (if id = 65535 then 1 else id + 1) (by split <;> omega) (by split <;> omega)
      refine ⟨k + 1, by omega, ?_, fun j hj => ?_, fun hk => ?_⟩
      · simp only [freeId, List.contains_iff_mem, hh, if_true, hf, e]
      · cases j with
        | zero => rwa [h0]
        | succ j => exact e j ▸ hin j (by omega)
      · exact e k ▸ hout (by omega)
    · refine ⟨0, by omega, ?_, by omega, fun _ => by rwa [h0]⟩
      simp only [freeId, List.contains_iff_mem, hh, if_false, h0]

end Sys2Proof.Machine
end

