-- ==== Sys2Proof/Laws/PerInstr.lean ====
section
/-! SUPPORT. One family of lemmas per command: the body of a well-formed request has a length that the table of R182 allows for its
kind code, so that no well-formed request is refused UNKNOWN_KIND or BAD_LENGTH (R155). -/

namespace Sys2Proof.Laws.BodyFits

set_option Elab.async false

open Sys2Proof.Machine

/-- R155, R182: a well-formed request passes checks 2 and 3; an event is no request. -/
def Statement (i : Instr) : Prop :=
  i.wellFormed = true → (requestLink i).isSome = true →
    judgedFrame (requestFrame i).1 (requestFrame i).2 = .request (requestFrame i).1 (requestFrame i).2

/-- A frame whose kind code allows its body length is a request. -/
theorem judged_of_allowed {kind : Byte} {body : List Byte} (h : body.length ∈ allowedLengths kind) :
    judgedFrame kind body = .request kind body := by
  have hk : kindNamesRequest kind = true := by
    cases hl : allowedLengths kind with
    | nil => simp [hl] at h
    | cons a as => simp [kindNamesRequest, hl]
  have hc : (allowedLengths kind).contains body.length = true := by simpa using h
  unfold judgedFrame
  rw [hk, hc]
  rfl

/-- The settings characters of a SET OUTPUT body make its length one of the four allowed. -/
theorem outputFields_length (f : OutputFields) : f.chars.length = 0 ∨ f.chars.length = 2 ∨ f.chars.length = 9 ∨ f.chars.length = 17 := by
  cases f <;> simp [OutputFields.chars, LabelField.chars]

theorem status (l : LinkId) : Statement (.status l) := by
  intro _ _
  exact judged_of_allowed (by simp [requestFrame, allowedLengths])

theorem readClock (l : LinkId) : Statement (.readClock l) := by
  intro _ _
  exact judged_of_allowed (by simp [requestFrame, allowedLengths])

theorem setHouse (l : LinkId) (rateClass : Byte) (label : LabelField) (atCode : Byte) (tick : BitVec 48) : Statement (.setHouse l rateClass label atCode tick) := by
  intro _ _
  exact judged_of_allowed (by simp [requestFrame, LabelField.chars, allowedLengths])

theorem jam (l : LinkId) (lane : Byte) : Statement (.jam l lane) := by
  intro _ _
  exact judged_of_allowed (by simp [requestFrame, allowedLengths])

theorem unjam (l : LinkId) : Statement (.unjam l) := by
  intro _ _
  exact judged_of_allowed (by simp [requestFrame, allowedLengths])

theorem setAutojam (l : LinkId) (setting : Byte) : Statement (.setAutojam l setting) := by
  intro _ _
  exact judged_of_allowed (by simp [requestFrame, allowedLengths])

theorem setReference (l : LinkId) (source : Byte) (rateClass : Byte) (loop : Byte) (trimMode : Byte) (trim : BitVec 16) : Statement (.setReference l source rateClass loop trimMode trim) := by
  intro _ _
  exact judged_of_allowed (by simp [requestFrame, allowedLengths])

theorem readReference (l : LinkId) : Statement (.readReference l) := by
  intro _ _
  exact judged_of_allowed (by simp [requestFrame, allowedLengths])

theorem setInput (l : LinkId) (lane : Byte) (kind : Byte) (rateClass : Byte) (drop : Byte) (role : Byte) (lead : BitVec 16) (window : Byte) (silence : Byte) (tolerance : BitVec 16) : Statement (.setInput l lane kind rateClass drop role lead window silence tolerance) := by
  intro _ _
  exact judged_of_allowed (by simp [requestFrame, allowedLengths])

theorem readInput (l : LinkId) (lane : Byte) : Statement (.readInput l lane) := by
  intro _ _
  exact judged_of_allowed (by simp [requestFrame, allowedLengths])

theorem capture (l : LinkId) (lane : Byte) (mode : Byte) (flush : Byte) : Statement (.capture l lane mode flush) := by
  intro _ _
  exact judged_of_allowed (by simp [requestFrame, allowedLengths])

theorem peek (l : LinkId) (lane : Byte) (count : Byte) : Statement (.peek l lane count) := by
  intro _ _
  exact judged_of_allowed (by simp [requestFrame, allowedLengths])

theorem setOutput (l : LinkId) (lane : Byte) (kind : Byte) (fields : OutputFields) : Statement (.setOutput l lane kind fields) := by
  intro _ _
  refine judged_of_allowed ?_
  rcases outputFields_length fields with h | h | h | h <;> simp [requestFrame, h, allowedLengths]

theorem readOutput (l : LinkId) (lane : Byte) : Statement (.readOutput l lane) := by
  intro _ _
  exact judged_of_allowed (by simp [requestFrame, allowedLengths])

theorem arm (l : LinkId) (scene : List Byte) (shot : List Byte) (number : BitVec 16) (flags : Byte) (count : Byte) (slots : List Byte) : Statement (.arm l scene shot number flags count slots) := by
  intro hw _
  simp only [Instr.wellFormed, Bool.and_eq_true, beq_iff_eq] at hw
  exact judged_of_allowed (by simp [requestFrame, hw.1.1, hw.1.2, hw.2, allowedLengths])

theorem roll (l : LinkId) (take : BitVec 16) : Statement (.roll l take) := by
  intro _ _
  exact judged_of_allowed (by simp [requestFrame, allowedLengths])

theorem cut (l : LinkId) (take : BitVec 16) : Statement (.cut l take) := by
  intro _ _
  exact judged_of_allowed (by simp [requestFrame, allowedLengths])

theorem close (l : LinkId) (take : BitVec 16) : Statement (.close l take) := by
  intro _ _
  exact judged_of_allowed (by simp [requestFrame, allowedLengths])

theorem void (l : LinkId) (take : BitVec 16) : Statement (.void l take) := by
  intro _ _
  exact judged_of_allowed (by simp [requestFrame, allowedLengths])

theorem rate (l : LinkId) (take : BitVec 16) (rating : Byte) : Statement (.rate l take rating) := by
  intro _ _
  exact judged_of_allowed (by simp [requestFrame, allowedLengths])

theorem mark (l : LinkId) (take : BitVec 16) (tickMode : Byte) (tick : BitVec 48) (code : Byte) : Statement (.mark l take tickMode tick code) := by
  intro _ _
  exact judged_of_allowed (by simp [requestFrame, allowedLengths])

theorem readTake (l : LinkId) (take : BitVec 16) : Statement (.readTake l take) := by
  intro _ _
  exact judged_of_allowed (by simp [requestFrame, allowedLengths])

theorem listTakes (l : LinkId) (start : Byte) : Statement (.listTakes l start) := by
  intro _ _
  exact judged_of_allowed (by simp [requestFrame, allowedLengths])

theorem collect (l : LinkId) (take : BitVec 16) : Statement (.collect l take) := by
  intro _ _
  exact judged_of_allowed (by simp [requestFrame, allowedLengths])

theorem clap (l : LinkId) : Statement (.clap l) := by
  intro _ _
  exact judged_of_allowed (by simp [requestFrame, allowedLengths])

theorem setSlate (l : LinkId) (pointer : Byte) (take : BitVec 16) (display : Byte) (lane : Byte) (cycle : Byte) (duty : Byte) (hold : BitVec 24) : Statement (.setSlate l pointer take display lane cycle duty hold) := by
  intro _ _
  exact judged_of_allowed (by simp [requestFrame, allowedLengths])

theorem readPanel (l : LinkId) : Statement (.readPanel l) := by
  intro _ _
  exact judged_of_allowed (by simp [requestFrame, allowedLengths])

theorem setFlash (l : LinkId) (count : Byte) (onTime : BitVec 24) (duty : Byte) : Statement (.setFlash l count onTime duty) := by
  intro _ _
  exact judged_of_allowed (by simp [requestFrame, allowedLengths])

theorem readLoose (l : LinkId) (clear : Byte) : Statement (.readLoose l clear) := by
  intro _ _
  exact judged_of_allowed (by simp [requestFrame, allowedLengths])

theorem convert (l : LinkId) (direction : Byte) (sourceA : SourceField) (value : BitVec 48) (sourceB : Option SourceField) : Statement (.convert l direction sourceA value sourceB) := by
  intro hw _
  cases sourceB with
  | none =>
    simp only [Instr.wellFormed, SourceField.wellFormed, Option.all_none, Bool.and_true, beq_iff_eq] at hw
    exact judged_of_allowed (by simp [requestFrame, SourceField.chars, hw, allowedLengths])
  | some b =>
    simp only [Instr.wellFormed, SourceField.wellFormed, Option.all_some, Bool.and_eq_true, beq_iff_eq] at hw
    exact judged_of_allowed (by simp [requestFrame, SourceField.chars, hw.1, hw.2, allowedLengths])

theorem setLink (l : LinkId) (link : Byte) (divisor : BitVec 16) : Statement (.setLink l link divisor) := by
  intro _ _
  exact judged_of_allowed (by simp [requestFrame, allowedLengths])

theorem setNotices (l : LinkId) (classes : Byte) (level : Byte) (timeout : Byte) : Statement (.setNotices l classes level timeout) := by
  intro _ _
  exact judged_of_allowed (by simp [requestFrame, allowedLengths])

theorem save (l : LinkId) : Statement (.save l) := by
  intro _ _
  exact judged_of_allowed (by simp [requestFrame, allowedLengths])

theorem restart (l : LinkId) : Statement (.restart l) := by
  intro _ _
  exact judged_of_allowed (by simp [requestFrame, allowedLengths])

theorem defaults (l : LinkId) : Statement (.defaults l) := by
  intro _ _
  exact judged_of_allowed (by simp [requestFrame, allowedLengths])

theorem startUp : Statement .startUp := by
  intro _ h
  simp [requestLink] at h

theorem houseFull : Statement .houseFull := by
  intro _ h
  simp [requestLink] at h

theorem referenceEdge : Statement .referenceEdge := by
  intro _ h
  simp [requestLink] at h

theorem lossExpiry : Statement .lossExpiry := by
  intro _ h
  simp [requestLink] at h

theorem staleExpiry : Statement .staleExpiry := by
  intro _ h
  simp [requestLink] at h

theorem pendingChangeDue : Statement .pendingChangeDue := by
  intro _ h
  simp [requestLink] at h

theorem wordArrival (i : LaneId) (w : FrameWord) : Statement (.wordArrival i w) := by
  intro _ h
  simp [requestLink] at h

theorem pulseEdge (i : LaneId) : Statement (.pulseEdge i) := by
  intro _ h
  simp [requestLink] at h

theorem missingExpiry (i : LaneId) : Statement (.missingExpiry i) := by
  intro _ h
  simp [requestLink] at h

theorem silenceExpiry (i : LaneId) : Statement (.silenceExpiry i) := by
  intro _ h
  simp [requestLink] at h

theorem effectBoundary (o : LaneId) : Statement (.effectBoundary o) := by
  intro _ h
  simp [requestLink] at h

theorem pulseStart (o : LaneId) : Statement (.pulseStart o) := by
  intro _ h
  simp [requestLink] at h

theorem pulseEnd (o : LaneId) : Statement (.pulseEnd o) := by
  intro _ h
  simp [requestLink] at h

theorem wordComposition (o : LaneId) : Statement (.wordComposition o) := by
  intro _ h
  simp [requestLink] at h

theorem contactClose : Statement .contactClose := by
  intro _ h
  simp [requestLink] at h

theorem contactOpen : Statement .contactOpen := by
  intro _ h
  simp [requestLink] at h

theorem debounceExpiry : Statement .debounceExpiry := by
  intro _ h
  simp [requestLink] at h

theorem burstStep : Statement .burstStep := by
  intro _ h
  simp [requestLink] at h

theorem burstEnd : Statement .burstEnd := by
  intro _ h
  simp [requestLink] at h

theorem holdEnd : Statement .holdEnd := by
  intro _ h
  simp [requestLink] at h

theorem characterReceived (l : LinkId) (data : Byte) (lead : Bool) (framing : Bool) : Statement (.characterReceived l data lead framing) := by
  intro _ h
  simp [requestLink] at h

theorem lineBreak (l : LinkId) : Statement (.lineBreak l) := by
  intro _ h
  simp [requestLink] at h

theorem characterTaken (l : LinkId) : Statement (.characterTaken l) := by
  intro _ h
  simp [requestLink] at h

theorem silenceTimerExpiry (l : LinkId) : Statement (.silenceTimerExpiry l) := by
  intro _ h
  simp [requestLink] at h

theorem assemblerRefusal (l : LinkId) : Statement (.assemblerRefusal l) := by
  intro _ h
  simp [requestLink] at h

theorem feederCharacter (l : LinkId) : Statement (.feederCharacter l) := by
  intro _ h
  simp [requestLink] at h

theorem noticeFed (l : LinkId) : Statement (.noticeFed l) := by
  intro _ h
  simp [requestLink] at h

theorem characterSent (l : LinkId) : Statement (.characterSent l) := by
  intro _ h
  simp [requestLink] at h

theorem pauseAsserted (l : LinkId) : Statement (.pauseAsserted l) := by
  intro _ h
  simp [requestLink] at h

theorem pauseReleased (l : LinkId) : Statement (.pauseReleased l) := by
  intro _ h
  simp [requestLink] at h

theorem batchExpiry (l : LinkId) : Statement (.batchExpiry l) := by
  intro _ h
  simp [requestLink] at h

theorem writeEnd : Statement .writeEnd := by
  intro _ h
  simp [requestLink] at h

theorem wordclockRise (o : LaneId) : Statement (.wordclockRise o) := by
  intro _ h
  simp [requestLink] at h

theorem wordclockFall (o : LaneId) : Statement (.wordclockFall o) := by
  intro _ h
  simp [requestLink] at h

theorem breakEnd (l : LinkId) : Statement (.breakEnd l) := by
  intro _ h
  simp [requestLink] at h

end Sys2Proof.Laws.BodyFits
end

