-- ==== Sys2Proof/Tests/Slice0.lean ====
section
/-! SUPPORT. The model's own tests: the smoke of WellFormed, words of requests written out from 11.2 to 11.5, one step of a
command against a worked case of the reference, and for every statement with hypotheses a witness that meets them, clause by clause and
at the boundary values of their ranges. The expected values are the reference's own, or worked by hand from its rules. -/

namespace Sys2Proof.Tests

open Sys2Proof.Machine

set_option Elab.async false

/-! ### Small states -/

/-- The state a command leaves. -/
def after (c : Instr) (s : State) : State :=
  match exec c s with
  | .next t => t
  | .fault f => nomatch f
  | .refused _ => s

/-- A state with the house tick at `t`. -/
def tickAt (t : Nat) (s : State) : State := s.modHc (fun h => { h with tick := t })

/-- The data characters of link `l`'s waiting response. -/
def responseOn (l : LinkId) (s : State) : List Byte := ((s.link l).response.map (fun w => w.frame.map TxChar.data)).getD []

/-- The refusal code of link `l`'s waiting response, where it is a refusal frame. -/
def refusalOn (l : LinkId) (s : State) : Option Byte :=
  match responseOn l s with
  | [0xFF#8, 2#8, _, code, _] => some code
  | _ => none

/-- A CAMERA lane's settings: TIMECODE at the rate code given, lead 2,000. -/
def camera (r : RateCode) : InSettings := ⟨.timecode, r, false, .camera, 2000, 16, 3, 3000⟩

/-- An input lane in the tracking state given, with its latest good word labelled `lab` at tick `t`. -/
def laneWith (set : InSettings) (tl : Timeline) (st : Tracking) (t : Nat) (lab : Label) : InLane :=
  { clearedInput set (some tl) with
    state := st
    seeking := 3
    latest := some ⟨.good, t⟩
    good := some ⟨t, (t : Int) - set.lead, some ⟨lab, false, false, false, set.rate.cls, 0#24⟩, frameNumber set.rate false lab⟩
    lock := some 0 }

/-- The start-up house timeline. -/
def houseAtReset : Timeline := ⟨.f24, false, 0, ⟨0, 0, 0, 0⟩⟩

/-- Reset with input lane 1 in the tracking state given, at F24, and the tick just after its latest good word. -/
def withLane (st : Tracking) : State :=
  tickAt 1000000 (State.reset.modInput 1 (fun _ => laneWith (camera .f24) houseAtReset st 992000 ⟨0, 0, 1, 9⟩))

/-- A take on lane 0. -/
def takeIn (st : TakeState) : Take :=
  { newTake 1 [0x31#8] [] 1 0 [0] false false with
    state := st
    start := if st = .armed then none else some 500000
    endTick := if st = .cut ∨ st = .closed then some 900000 else none }

/-- Reset at tick 1,000,000 with one take in the table. -/
def withTake (st : TakeState) : State :=
  tickAt 1000000 (State.reset.modTt (fun tt =>
    { tt with
      takes := [takeIn st]
      nextId := 2
      tableCount := 1
      openCount := if st = .closed then 0 else 1
      rollingCount := if st = .rolling then 1 else 0
      rollOrder := if st = .rolling ∨ st = .cut then [1] else [] }))

/-- The take with 16 marks. -/
def fullTake : Take := { takeIn .rolling with marks := List.replicate 16 ⟨600000, .mark, .link 0, 0⟩ }

/-- Reset at tick 1,000,000 with a ROLLING take of 16 marks. -/
def withFullTake : State := (withTake .rolling).modTt (fun tt => { tt with takes := [fullTake] })

/-- Reset with output lane 2's record replaced. -/
def withOutput (v : OutLane) : State := State.reset.modOutput 2 (fun _ => v)

/-- Reset with link 0's record changed. -/
def withLink (f : LinkPort → LinkPort) : State := State.reset.modLink 0 f

/-- Link 0 with a response waiting. -/
def busyLink : State := withLink (fun p => { p with response := some ⟨frameChars 0x84#8 [], 0, none⟩ })

/-- A queued LOOSE_CLAP notice that entered at tick `t`. -/
def queuedAt (t : Nat) : QueuedNotice := ⟨⟨.looseClap t .contact 1 0, t⟩, false, t⟩

/-- Reset with the store's fields given. -/
def withStore (f : SettingsStore → SettingsStore) : State := State.reset.modStore f

/-- A write in flight that ends at tick `t`. -/
def writeTo (t : Nat) : StoreWrite := ⟨State.reset.snapshot, 0, t, 0⟩

/-- A House Clock in the state given on the reference input at F24, its window open since the edge at tick 30,000. -/
def onRef (st : RefState) (edges : Nat) (t : Nat) : State :=
  State.reset.modHc (fun h =>
    { h with
      tick := t
      source := .refInput
      state := st
      windowStart := some 960000
      edgeCount := edges
      lastEdge := some 960000
      nextExpected := some 60000 })

/-! ### The smoke of WellFormed: an ill-formed term for each check, refused -/

theorem test_wf_arm_scene : (Instr.arm 0 [] [0, 0, 0, 0] 1 0 1 [0, 0, 0, 0, 0, 0, 0, 0]).wellFormed = false := by decide
theorem test_wf_arm_shot : (Instr.arm 0 [0, 0, 0, 0, 0, 0, 0, 0] [0] 1 0 1 [0, 0, 0, 0, 0, 0, 0, 0]).wellFormed = false := by decide
theorem test_wf_arm_slots : (Instr.arm 0 [0, 0, 0, 0, 0, 0, 0, 0] [0, 0, 0, 0] 1 0 1 []).wellFormed = false := by decide
theorem test_wf_convert_a : (Instr.convert 0 0 ⟨0, []⟩ 0 none).wellFormed = false := by decide
theorem test_wf_convert_b : (Instr.convert 0 0 ⟨0, List.replicate 12 0⟩ 0 (some ⟨0, [1]⟩)).wellFormed = false := by decide
theorem test_wf_arm_ok :
    (Instr.arm 0 [0x31, 0, 0, 0, 0, 0, 0, 0] [0, 0, 0, 0] 1 0 1 [0, 0, 0, 0, 0, 0, 0, 0]).wellFormed = true := by decide

/-! ### Requests and frames written out from 11.2 to 11.5 -/

/-- 11.2: READ CLOCK is sent as 0x02*, 0x00, 0xFE. -/
theorem test_read_clock_frame : (frameChars 0x02#8 []).map TxChar.data = [0x02#8, 0x00#8, 0xFE#8] := by decide
theorem test_decode_read_clock : decodeRequest 3 0x02#8 [] = some (.readClock 3) := by decide
/-- 11.5: SET HOUSE F23, 11:00:00:00, T = 50,029,980 (0x02FB659C). -/
theorem test_decode_set_house :
    decodeRequest 1 0x03#8 [0, 11, 0, 0, 0, 0, 1, 0x00, 0x00, 0x02, 0xFB, 0x65, 0x9C] =
      some (.setHouse 1 0 ⟨11, 0, 0, 0, 0⟩ 1 50029980) := by decide +kernel
/-- 11.5: SET OUTPUT lane 2, PULSE custom 96, placement 6,000, duration 3,000. -/
theorem test_decode_set_output :
    decodeRequest 0 0x0D#8 [2, 1, 1, 96, 0, 0x00, 0x17, 0x70, 0x00, 0x0B, 0xB8] =
      some (.setOutput 0 2 1 (.pulse 1 96 0 6000 3000)) := by decide +kernel
/-- R155: 0x24 names no request, and SET OUTPUT takes no body of 3 characters. -/
theorem test_no_such_request : decodeRequest 0 0x24#8 [] = none ∧ decodeRequest 0 0x0D#8 [2, 1, 1] = none := by decide
/-- The opcode table gives its rows no bits. -/
theorem test_no_bits : decodeTableWord 8 1 = none ∧ State.reset.withFetchWord 8 1 = State.reset := by decide +kernel

/-! ### Worked cases of chapters 01 and 11 -/

theorem test_crc_values : crc8 0#54 = 0x00#8 ∧ crc8 1#54 = 0x07#8 ∧ crc8 2#54 = 0x0E#8 := by decide +kernel
/-- R8, R10: the rows of the F29 drop tables. -/
theorem test_drop_labels :
    frameNumber .f29 true ⟨0, 1, 0, 2⟩ = 1800 ∧ frameNumber .f29 true ⟨23, 59, 59, 29⟩ = 2589407 ∧
    labelOfFrame .f29 true 17982 = ⟨0, 10, 0, 0⟩ ∧ labelOfFrame .f29 true 1799 = ⟨0, 0, 59, 29⟩ := by decide +kernel
/-- R14: one nominal day on a drop-mode timeline from tick 0. -/
theorem test_drop_day :
    (Timeline.mk .f29 true 0 ⟨0, 0, 0, 0⟩).labelAt 62208000000 = ⟨0, 0, 0, 2⟩ ∧
    (Timeline.mk .f29 true 0 ⟨0, 0, 0, 0⟩).subframeAt 62208000000 = 14160 := by decide +kernel
/-- R94: S48 DOWN rises at o + 16, 31, 46 and falls at 8, 23, 38, 53. -/
theorem test_wordclock_ticks :
    [1, 2, 3].map (audioStream .s48 .down 0).startOf = [16, 31, 46] ∧
    [0, 1, 2, 3].map (audioStream .s48 .down 0).fallOf = [8, 23, 38, 53] := by decide +kernel
/-- R62: the label-day wrap. -/
theorem test_offset_wrap : wordOffset houseAtReset 2073599 0 = 30000 := by decide +kernel
/-- R63: an edge exactly half a period from the grid counts as late. -/
theorem test_edge_offset : edgeOffset 30030 30000 = -30 ∧ edgeOffset 30030 15015 = 15015 := by decide
/-- R135: 20 pulses of 7,200 ticks at D13 span 554,400 ticks. -/
theorem test_burst_span : (FlashSettings.mk 20 7200 .d13).span = 554400 ∧ (FlashSettings.mk 4 72000 .steady).span = 288000 := by decide
/-- 11.8: the longest take record has 234 characters. -/
theorem test_longest_record :
    ({ fullTake with participants := List.replicate 8 (newParticipant 0) }).record.length = 234 := by decide +kernel

/-! ### One step of a command -/

/-- R25: HOUSE_FULL is set at the maximum, and not one tick before it. -/
theorem test_house_full :
    (after .houseFull (tickAt 281474976710655 State.reset)).hc.full = true ∧
    (after .houseFull (tickAt 281474976710654 State.reset)).hc.full = false := by decide +kernel
/-- R24: 32 periods at trim 0 make one tick; the 32nd ends it. -/
theorem test_tick_ends :
    ((State.reset.modHc (fun h => { h with fine := 3100000000 })).oscillate.hc.tick,
      (State.reset.modHc (fun h => { h with fine := 3099999999 })).oscillate.hc.tick) = (1, 0) := by decide +kernel
/-- R45: NOW at tick 36,000,000 gives the origin 36,000,000. -/
theorem test_set_house_now :
    (after (.setHouse 1 1 ⟨10, 0, 0, 0, 0⟩ 0 0) (tickAt 36000000 State.reset)).tu.house = ⟨.f24, false, 36000000, ⟨10, 0, 0, 0⟩⟩ := by
  decide +kernel
/-- R45: at 50,000,000 with a take rolling, an F23 change with NOW is held at 1,666 × 30,030. -/
theorem test_set_house_held :
    (after (.setHouse 2 0 ⟨11, 0, 0, 0, 0⟩ 0 0) (tickAt 50000000 (withTake .rolling))).tu.change =
      some ⟨⟨.f23, false, 50029980, ⟨11, 0, 0, 0⟩⟩, true⟩ := by decide +kernel
/-- R49: JAM is refused ROLLING while a take rolls, NOT_TRACKING on a lane of kind OFF. -/
theorem test_jam_refused :
    refusalOn 0 (after (.jam 0 1) (withTake .rolling)) = some 0x08#8 ∧ refusalOn 0 (after (.jam 0 1) State.reset) = some 0x09#8 := by
  decide +kernel
/-- R50: the new origin is the latest good word's t_frame. -/
theorem test_jam : (after (.jam 0 1) (withLane .tracking)).tu.house = ⟨.f24, false, 990000, ⟨0, 0, 1, 9⟩⟩ := by decide +kernel
theorem test_unjam_empty : refusalOn 0 (after (.unjam 0) State.reset) = some 0x15#8 := by decide +kernel
theorem test_set_autojam : (after (.setAutojam 0 7) State.reset).tu.autoJam = some 7 := by decide +kernel
/-- R26: a trim of 20,000 is stored as 10,000. -/
theorem test_set_reference_clamps :
    (after (.setReference 0 1 1 0 1 20000) State.reset).hc.trim = 10000 ∧
    (after (.setReference 0 1 1 0 1 20000) State.reset).hc.state = .acquire := by decide +kernel
/-- R29: a gap of 14,999 at P_ref 30,000 is a runt, one of 15,000 is not. -/
theorem test_runt :
    (after .referenceEdge (onRef .locked 0 44999)).hc.edgeCount = 0 ∧ (after .referenceEdge (onRef .locked 0 45000)).hc.edgeCount = 1 := by
  decide +kernel
/-- R34: loss at the next expected edge plus 2 × P_ref, and not before. -/
theorem test_loss :
    (after .lossExpiry (onRef .locked 0 120000)).hc.state = .holdover ∧ (after .lossExpiry (onRef .locked 0 119999)).hc.state = .locked := by
  decide +kernel
/-- R57: slip tolerance 0 and silence limit 0 are stored as 1. -/
theorem test_set_input_clamps :
    (after (.setInput 0 3 2 0 0 0 0 16 0 0) State.reset).inputs.at3.settings = ⟨.pulse, .f23, false, .camera, 0, 16, 1, 1⟩ := by
  decide +kernel
/-- R57 check 3: a participant of a ROLLING take does not change its kind. -/
theorem test_set_input_busy :
    refusalOn 0 (after (.setInput 0 0 1 1 0 0 0 16 3 3000) (withTake .rolling)) = some 0x11#8 := by decide +kernel
/-- R60: a word of the wrong rate class is an error word. -/
theorem test_wrong_rate :
    ((after (.wordArrival 1 (wordOfFields ⟨⟨0, 0, 1, 10⟩, false, false, false, 0, 0#24⟩)) (withLane .tracking)).input 1).latest =
      some ⟨.wrongRate, 1000000⟩ := by decide +kernel
/-- R65: the fourth word in a row takes the lane to TRACKING; expected at 1,022,000 with lead 2,000, it is 22,000 early. -/
theorem test_run_complete :
    ((after (.wordArrival 1 (wordOfFields ⟨⟨0, 0, 1, 10⟩, false, false, false, 1, 0#24⟩)) (withLane .seeking)).input 1).state = .tracking ∧
    ((after (.wordArrival 1 (wordOfFields ⟨⟨0, 0, 1, 10⟩, false, false, false, 1, 0#24⟩)) (withLane .seeking)).input 1).lock =
      some (-22000) := by decide +kernel
/-- R66: for P = 30,000 the missing expiry is at expected arrival + 15,001. -/
theorem test_missing :
    ((after (.missingExpiry 1) (tickAt 1037001 (withLane .tracking))).input 1).missed = 1 ∧
    ((after (.missingExpiry 1) (tickAt 1037000 (withLane .tracking))).input 1).missed = 0 := by decide +kernel
/-- R69: SILENT after the silence limit of 3 periods. -/
theorem test_silence :
    ((after (.silenceExpiry 1) (tickAt 1082000 (withLane .tracking))).input 1).state = .silent ∧
    ((after (.silenceExpiry 1) (tickAt 1081999 (withLane .tracking))).input 1).state = .tracking := by decide +kernel
/-- R77: the fifth word of a CONTINUOUS capture sets OVERRUN. -/
theorem test_capture_overrun :
    (InLane.offerCapture { clearedInput factoryInput none with captureMode := .continuous, captured := List.replicate 4 ⟨0, .good, 0, 0⟩ }
      ⟨1, .good, 0, 0⟩).overrun = true := by decide +kernel
/-- R86: an F23 PULSE lane set at 1,000,000 has its effect boundary at 1,021,020; placement 40,000 is stored as 30,029. -/
theorem test_set_output_pulse :
    ((after (.setOutput 0 2 1 (.pulse 0 0 0 40000 3003)) (tickAt 1000000 State.reset)).output 2).nextBoundary = some 1021020 ∧
    (((after (.setOutput 0 2 1 (.pulse 0 0 0 40000 3003)) (tickAt 1000000 State.reset)).output 2).newest.map OutSetup.config) =
      some (.pulse (.code .f23) false 30029 3003) := by decide +kernel
/-- R183: a SET OUTPUT whose length does not match its kind. -/
theorem test_set_output_length : refusalOn 0 (after (.setOutput 0 2 3 .bare) State.reset) = some 0x06#8 := by decide +kernel
/-- R88: the word composed at boundary 60,000 labels the frame that starts at 90,000. -/
theorem test_composition :
    (((after (.wordComposition 2) (tickAt 60000 (withOutput
      ⟨.running, some ⟨.timecode .f24 false .follow .take, some houseAtReset, 0⟩, none, some 60000, 0, none, none, true⟩))).output 2).word.map
        (fun w => (w.fields.label, w.fields.clap, w.endTick))) = some (⟨0, 0, 0, 3⟩, true, 90000) := by decide +kernel
/-- R102: a lane of kind OFF may not be a participant. -/
theorem test_arm_bad_participant :
    refusalOn 0 (after (.arm 0 [0x31, 0, 0, 0, 0, 0, 0, 0] [0, 0, 0, 0] 1 0 1 [0, 0, 0, 0, 0, 0, 0, 0]) State.reset) = some 0x12#8 := by
  decide +kernel
theorem test_roll : ((after (.roll 0 1) (withTake .armed)).take? 1).map (fun t => (t.state, t.start)) = some (.rolling, some 1000000) := by
  decide +kernel
/-- R107: a WRONG_STATE refusal carries the take's state beside its frame. -/
theorem test_cut_wrong_state :
    refusalOn 0 (after (.cut 0 1) (withTake .armed)) = some 0x0F#8 ∧
    ((after (.cut 0 1) (withTake .armed)).link 0).response.bind WaitingResponse.carried = some .armed := by decide +kernel
theorem test_close : (after (.close 0 1) (withTake .cut)).tt.rollOrder = [] ∧ (after (.close 0 1) (withTake .cut)).tt.openCount = 0 := by
  decide +kernel
theorem test_void_rolling : refusalOn 0 (after (.void 0 1) (withTake .rolling)) = some 0x0F#8 := by decide +kernel
/-- R113: a NOW mark on a CUT take is refused RANGE; an explicit tick within [start, end] is stored. -/
theorem test_mark :
    refusalOn 0 (after (.mark 0 1 0 0 9) (withTake .cut)) = some 0x13#8 ∧
    ((after (.mark 0 1 1 900000 3) (withTake .cut)).take? 1).map (fun t => t.marks.map Mark.tick) = some [900000] := by decide +kernel
theorem test_collect : ((after (.collect 3 1) (withTake .closed)).take? 1).map Take.collected = some 8#4 := by decide +kernel
/-- R129: a clap 143,999 ticks after the reference is ignored, one 144,000 after it is accepted. -/
theorem test_lockout :
    (after (.clap 0) (tickAt 1143999 (State.reset.modSu (fun u => { u with lockout := some 1000000 })))).su.lockout = some 1000000 ∧
    (after (.clap 0) (tickAt 1144000 (State.reset.modSu (fun u => { u with lockout := some 1000000 })))).su.lockout = some 1144000 := by
  decide +kernel
/-- R120: a clap on a ROLLING slate take is its clap tick. -/
theorem test_clap_on_take : ((after (.clap 0) (withTake .rolling)).take? 1).bind Take.clap = some 1000000 := by decide +kernel
/-- R128: the debounce expiry presents a clap stamped at the closure. -/
theorem test_debounce :
    (after .debounceExpiry (tickAt 1440 (State.reset.modSu (fun u => { u with contact := .timing 0 })))).su.lockout = some 0 ∧
    (after .debounceExpiry (tickAt 1439 (State.reset.modSu (fun u => { u with contact := .timing 0 })))).su.lockout = none := by
  decide +kernel
/-- R143: a hold time above 7,200,000 is stored as 7,200,000. -/
theorem test_set_slate : (after (.setSlate 0 0 0 0 0 64 75 9000000) State.reset).su.panel = ⟨.house, 64, 75, 7200000⟩ := by decide +kernel
/-- R134: on-time 10 is stored as 72, count 0 as 1. -/
theorem test_set_flash : (after (.setFlash 0 0 10 5) State.reset).su.flash = ⟨1, 72, .steady⟩ := by decide +kernel
/-- R150: a character that finds the receive FIFO full is lost with the overrun mark set. -/
theorem test_receive_full :
    ((after (.characterReceived 0 1 false false) (withLink (fun p => { p with rx := List.replicate 32 ⟨0, false, .clean⟩ }))).link 0).overrunMark =
      true := by decide +kernel
/-- R155: 0x02 + 0x00 + 0x00 is not 0: BAD_CHECK. -/
theorem test_bad_check :
    ((after (.characterTaken 0) (withLink (fun p => { p with rx := [⟨0, false, .clean⟩], assembler := .check 0x02 [] }))).link 0).assembler =
      .done (.refusal 0x02 .badCheck) := by decide +kernel
/-- R149: divisor 6 gives 115,200 bit/s: 0x01C200. -/
theorem test_set_link :
    (responseOn 0 (after (.setLink 0 1 6) State.reset)).take 8 = [0x9F, 6, 1, 0, 6, 0x01, 0xC2, 0x00] := by decide +kernel
/-- R171: a batch timeout of 0 is refused. -/
theorem test_set_notices : refusalOn 0 (after (.setNotices 0 31 1 0) State.reset) = some 0x06#8 := by decide +kernel
/-- R163: the READ CLOCK response has 18 characters: lead 0x82, length 15. -/
theorem test_read_clock :
    (responseOn 2 (after (.readClock 2) State.reset)).length = 18 ∧
    (responseOn 2 (after (.readClock 2) State.reset)).take 2 = [0x82#8, 15#8] := by decide +kernel
/-- R22 by R12: 00:00:01:00 on the house timeline at F24 is tick 720,000 (0x0AFC80). -/
theorem test_convert :
    ((responseOn 0 (after (.convert 0 1 ⟨0, List.replicate 12 0⟩ 0x000001000000#48 none) State.reset)).drop 2).take 6 =
      [0, 0, 0, 0x0A, 0xFC, 0x80] := by decide +kernel
/-- R176: the write of a SAVE at tick 0 ends at tick 28,800. -/
theorem test_save : ((after (.save 0) State.reset).store.write.map StoreWrite.endTick) = some 28800 := by decide +kernel
theorem test_restart_blank : refusalOn 0 (after (.restart 0) State.reset) = some 0x16#8 := by decide +kernel
/-- R178: a start-up that finds INCOMPLETE sets STORE_FAULT. -/
theorem test_start_up_incomplete : (after .startUp (withStore (fun t => { t with state := .incomplete }))).store.fault = true := by
  decide +kernel
theorem test_defaults_rolling : refusalOn 0 (after (.defaults 0) (withTake .rolling)) = some 0x08#8 := by decide +kernel

/-- R146: under HOUSE_FULL a lane clap is stamped the maximum, although its word's lead is 2,000. -/
theorem test_lane_clap_full :
    ((((tickAt 281474976710655 (withLane .tracking)).modHc (fun h => { h with full := true })).modInput 1 (fun v =>
      { v with settings := { v.settings with role := .slate } })).takeClapFlag 1 true false 281474976708655).su.lockout = some 281474976710655 := by
  decide +kernel

/-! ### Witnesses: states and operands that meet the hypotheses of each statement -/

theorem witness_StepTakesFrontCommand : ({ State.reset with pending := [.startUp] } : State).pending = .startUp :: [] := rfl

/-- The clock's invariant on a state whose store holds no image and, at most, the write of reset's settings. -/
theorem clockInv_of {s : State}
    (h : s.tick ≤ Config.maxTick ∧ (s.hc.full = false ∨ s.tick = Config.maxTick) ∧ s.hc.fine < fineWrap ∧ -10000 ≤ s.hc.trim ∧
      s.hc.trim ≤ 10000 ∧ s.store.image = none ∧ (s.store.write = none ∨ s.store.write = some (writeTo 0))) : s.ClockInv := by
  obtain ⟨h1, h2, h3, h4, h5, h6, h7⟩ := h
  refine ⟨h1, fun hf => ?_, h3, ⟨h4, h5⟩, fun k hk => ?_, fun w hw => ?_⟩
  · rcases h2 with h2 | h2
    · rw [h2] at hf
      cases hf
    · exact h2
  · rw [h6] at hk
    cases hk
  · rcases h7 with h7 | h7 <;> rw [h7] at hw
    · cases hw
    · obtain rfl := Option.some.inj hw
      exact ⟨by decide +kernel, by decide +kernel⟩

/-- Both halves: nothing due at tick 5, and a write due; the count below its maximum, and at it. -/
theorem witness_IdleStepTakesDueEventOrAdvances :
    (tickAt 5 State.reset).ClockInv ∧ (tickAt 5 State.reset).pending = [] ∧ (tickAt 5 State.reset).dueCommands = [] ∧
    (tickAt 5 State.reset).tick < Config.maxTick ∧
    (withStore (fun t => { t with write := some (writeTo 0) })).ClockInv ∧
    (withStore (fun t => { t with write := some (writeTo 0) })).dueCommands = .writeEnd :: [] ∧
    ((tickAt Config.maxTick State.reset).modHc (fun h => { h with full := true })).ClockInv ∧
    ((tickAt Config.maxTick State.reset).modHc (fun h => { h with full := true })).dueCommands = [] :=
  ⟨clockInv_of (by decide +kernel), rfl, by decide +kernel, by decide +kernel, clockInv_of (by decide +kernel), by decide +kernel,
    clockInv_of (by decide +kernel), by decide +kernel⟩

/-- An event whose condition holds, and the same event one tick before it does. -/
theorem witness_IdleStepTakesDueEventOrAdvances_due :
    (withStore (fun t => { t with write := some (writeTo 0) })).Owes .writeEnd ∧
    ¬ (withStore (fun t => { t with write := some (writeTo 1) })).Owes .writeEnd ∧
    Instr.writeEnd ∈ (withStore (fun t => { t with write := some (writeTo 0) })).dueCommands ∧
    Instr.writeEnd ∉ (withStore (fun t => { t with write := some (writeTo 1) })).dueCommands :=
  ⟨⟨writeTo 0, rfl, by decide⟩, fun ⟨_, hw, h⟩ => by cases hw; exact absurd h (by decide), by decide +kernel, by decide +kernel⟩

theorem witness_TakenRequestIsAcceptedOrRefused :
    requestLink (.clap 0) = some 0 ∧ State.reset.takes 0 (.clap 0) = true ∧
    requestLink (.unjam 3) = some 3 ∧ State.reset.takes 3 (.unjam 3) = true := by decide +kernel

/-- The link not free with the assembler IDLE; the link free with another outcome held. -/
theorem witness_UntakenRequestIsHeld :
    busyLink.takes 0 (.clap 0) = false ∧ (busyLink.link 0).free = false ∧ (busyLink.link 0).assembler = .idle ∧
    (withLink (fun p => { p with assembler := .done (.refusal 1 .badCheck) })).takes 0 (.clap 0) = false ∧
    ((withLink (fun p => { p with assembler := .done (.refusal 1 .badCheck) })).link 0).free = true := by decide +kernel

theorem witness_RequestFrameRoundTrip :
    (Instr.convert 0 4 ⟨0, List.replicate 12 0⟩ 0 (some ⟨2, List.replicate 12 7⟩)).wellFormed = true ∧
    requestLink (.convert 0 4 ⟨0, List.replicate 12 0⟩ 0 (some ⟨2, List.replicate 12 7⟩)) = some 0 := by decide

/-- A class not subscribed; a queue of 31 notices; a queue of 32. -/
theorem witness_NoticeHandover :
    ((withLink (fun p => { p with notices := { p.notices with classes := 0 } })).link 0).subscribes .clap = false ∧
    ((withLink (fun p => { p with queue := List.replicate 31 (queuedAt 0) })).link 0).subscribes .clap = true ∧
    ((withLink (fun p => { p with queue := List.replicate 31 (queuedAt 0) })).link 0).queue.length < 32 ∧
    32 ≤ ((withLink (fun p => { p with queue := List.replicate 32 (queuedAt 0) })).link 0).queue.length := by decide +kernel

/-- 11.7: a LOOSE_CLAP notice of the CONTACT at tick 256, with GAP; a number at the edge of its two characters. -/
theorem test_loose_clap_frame :
    ((QueuedNotice.mk ⟨.looseClap 256 .contact 1 0, 256⟩ true 256).frame.map TxChar.data).take 20 =
      [0xFE, 19, 0x05, 1, 0, 0, 0, 0, 1, 0, 0, 0, 0, 0, 0, 0, 1, 0, 0x20, 1] := by decide +kernel
theorem test_field_widths : bytesOf 2 65535 = [255, 255] ∧ bytesOf 2 65536 = [0, 0] ∧ signedChars 2 (-1) = [255, 255] := by decide +kernel

theorem witness_LabelsAndFrameNumbersInvert :
    labelValid .f59 true ⟨23, 59, 59, 59⟩ = true ∧ labelValid .f29 true ⟨0, 1, 0, 2⟩ = true ∧ dropFits .f59 true = true ∧
    5178815 < framesPerDay .f59 true ∧ 0 < framesPerDay .f23 false := by decide

theorem witness_TimelinesLabelAndFollow :
    (Timeline.mk .f29 true 0 ⟨0, 0, 0, 0⟩).valid = true ∧ labelValid .f29 true ⟨23, 59, 59, 29⟩ = true := by decide

theorem witness_UnitStartsAndBoundaries :
    audioStream .s44 .down 7 = audioStream .s44 .down 7 ∧ customAllowed 120 = true ∧ customAllowed 1 = true ∧
    (audioStream .s44 .down 7).startOf 3 ≤ 57 ∧ 72 < (audioStream .s44 .down 7).startOf 4 := by decide +kernel

theorem witness_TimelinesLabelAndFollow_follow : houseAtReset.valid = true ∧ dropFits .f29 true = true ∧ dropFits .f24 false = true := by decide

theorem witness_UnitStartsAndBoundaries_grid : 0 < RateCode.f23.period := by decide

theorem witness_ComposedWordIsGood :
    labelValid .f24 false ⟨23, 59, 59, 23⟩ = true ∧ (WordFields.mk ⟨23, 59, 59, 23⟩ false true true 1 0#24).rateClass = (camera .f24).rate.cls ∧
    (WordFields.mk ⟨23, 59, 59, 23⟩ false true true 1 0#24).drop = (camera .f24).drop := by decide

theorem witness_HouseFullIdlesOutputs :
    State.reset.hc.full = false ∧ Config.maxTick ≤ (tickAt 281474976710655 State.reset).tick ∧
    (tickAt 281474976710654 State.reset).tick < Config.maxTick ∧ (State.reset.modHc (fun h => { h with full := true })).hc.full = true := by
  decide

/-- A source with a changed state, and source NONE with an unchanged one. -/
theorem witness_SetReferenceEntersState :
    State.reset.takes 0 (.setReference 0 1 1 0 1 20000) = true ∧ refSourceOf 1 = some .refInput ∧ refSourceOf 0 = some .off ∧
    rateOf 1 = some .f24 ∧ loopOf 0 = some .track ∧ trimFieldOf 1 20000 = some (some 20000) ∧ trimFieldOf 0 0 = some none ∧
    State.reset.refSourceFits .refInput = true ∧ State.reset.refSourceFits .off = true ∧
    State.reset.takes 0 (.setReference 0 0 1 0 0 0) = true := by decide +kernel

/-- Sources 2, 0x0F, 0x18 and an OFF lane; rate class 10; loop mode 2; trim mode 2. -/
theorem witness_SetReferenceEntersState_refused :
    ([.setReference 0 2 1 0 1 0, .setReference 0 0x0F 1 0 1 0, .setReference 0 0x18 1 0 1 0, .setReference 0 0x17 1 0 1 0,
      .setReference 0 1 10 0 1 0, .setReference 0 1 1 2 1 0, .setReference 0 1 1 0 2 0] : List Instr).all (State.reset.takes 0) = true ∧
    refSourceOf 2 = none ∧ refSourceOf 0x0F = none ∧ refSourceOf 0x18 = none ∧ refSourceOf 0x17 = some (.lane 7) ∧
    (State.reset.input 7).settings.kind = .off ∧ 9 < (10#8).toNat ∧ 1 < (2#8).toNat ∧ State.reset.refSourceFits (.lane 7) = false ∧
    (withLane .tracking).refSourceFits (.lane 1) = true ∧ 0x17 < (0x18#8).toNat := by decide +kernel

/-- Each screening: ignored by source, by state; HOLDOVER; no window; a runt at 14,999; normal at 15,000 and 45,000; a gap at 45,001. -/
theorem witness_ReferenceEdgeIsScreened :
    State.reset.hc.source ≠ .refInput ∧ (onRef .off 0 0).hc.state = .off ∧ (onRef .holdover 0 44999).hc.state = .holdover ∧
    (onRef .locked 0 44999).hc.source = .refInput ∧ (onRef .locked 0 44999).hc.full = false ∧ (onRef .locked 0 44999).hc.state = .locked ∧
    ((onRef .acquire 0 44999).modHc (fun h => { h with windowStart := none })).hc.windowStart = none ∧
    (onRef .locked 0 44999).hc.windowStart = some 960000 ∧ (onRef .locked 0 44999).hc.lastEdge = some 960000 ∧
    (onRef .locked 0 44999).refPeriod = 30000 ∧
    2 * ((onRef .locked 0 44999).tick - 960000 / 32) < 30000 ∧
    30000 ≤ 2 * ((onRef .locked 0 45000).tick - 960000 / 32) ∧ 2 * ((onRef .locked 0 75000).tick - 960000 / 32) ≤ 3 * 30000 ∧
    (onRef .locked 14 45000).hc.edgeCount + 1 < 16 ∧ 3 * 30000 < 2 * ((onRef .locked 0 75001).tick - 960000 / 32) := by decide +kernel

/-- The House Clock of `onRef` on lane 1 in place of the reference input. -/
def onLane (st : RefState) (edges : Nat) (t : Nat) : State :=
  ((onRef st edges t).modHc (fun h => { h with source := .lane 1 })).modInput 1 (fun _ => clearedInput (camera .f24) (some houseAtReset))

theorem witness_ReferenceEdgeIsScreened_lane :
    (onLane .locked 0 45000).hc.source = .lane 1 ∧ (onLane .locked 0 45000).hc.source ≠ .lane 2 ∧ (onLane .locked 0 45000).hc.source ≠ .refInput ∧
    (onLane .locked 0 45000).hc.full = false ∧ (onLane .holdover 0 45000).hc.state = .holdover ∧ (onLane .off 0 45000).hc.state = .off ∧
    ((onLane .locked 0 45000).modHc (fun h => { h with full := true })).hc.full = true ∧ (onLane .locked 0 45000).refPeriod = 30000 ∧
    2 * ((onLane .locked 0 44999).tick - 960000 / 32) < 30000 ∧ 30000 ≤ 2 * ((onLane .locked 0 45000).tick - 960000 / 32) ∧
    3 * 30000 < 2 * ((onLane .locked 0 75001).tick - 960000 / 32) := by decide +kernel

theorem witness_MeasurementDisciplinesTrim :
    (onRef .acquire 15 60000).hc.source = .refInput ∧ (onRef .acquire 15 60000).hc.full = false ∧ (onRef .acquire 15 60000).hc.state = .acquire ∧
    (onRef .acquire 15 60000).hc.windowStart = some 960000 ∧ (onRef .acquire 15 60000).hc.lastEdge = some 960000 ∧
    (onRef .acquire 15 60000).hc.edgeCount = 15 ∧ (onRef .acquire 15 60000).refPeriod ≤ 2 * ((onRef .acquire 15 60000).tick - 960000 / 32) ∧
    2 * ((onRef .acquire 15 60000).tick - 960000 / 32) ≤ 3 * (onRef .acquire 15 60000).refPeriod := by decide +kernel

theorem witness_MeasurementDisciplinesTrim_lane :
    (onLane .locked 15 60000).hc.source = .lane 1 ∧ (onLane .locked 15 60000).hc.source ≠ .off ∧ (onLane .locked 15 60000).hc.full = false ∧
    (onLane .locked 15 60000).hc.state = .locked ∧ (onLane .locked 15 60000).hc.windowStart = some 960000 ∧
    (onLane .locked 15 60000).hc.lastEdge = some 960000 ∧ (onLane .locked 15 60000).hc.edgeCount = 15 ∧
    (onLane .locked 15 60000).refPeriod ≤ 2 * ((onLane .locked 15 60000).tick - 960000 / 32) ∧
    2 * ((onLane .locked 15 60000).tick - 960000 / 32) ≤ 3 * (onLane .locked 15 60000).refPeriod := by decide +kernel

/-- R30: a window 24 fine units long of 512 × 15,000 has the correction 312.5, given as 313; 24 short of it, −313. -/
theorem witness_MeasurementDisciplinesTrim_half :
    correctionOf 0 (512 * 15000 + 24) 15000 = 313 ∧ correctionOf 24 (512 * 15000) 15000 = -313 ∧
    2 * ((24 : Int) * 100000000 - 313 * (512 * 15000 : Nat)).natAbs = 512 * 15000 := by decide +kernel

/-- Each expiry due at its tick and not one tick before it. -/
theorem witness_LossAndStaleExpiries :
    (onRef .locked 0 120000).hc.nextExpected = some 60000 ∧ 60000 + 2 * (onRef .locked 0 120000).refPeriod ≤ (onRef .locked 0 120000).tick ∧
    (onRef .locked 0 120000).hc.state = .locked ∧ (onRef .locked 0 119999).lossDue = false ∧
    ((onRef .holdover 0 432000000).modHc (fun h => { h with holdoverSince := some 0 })).hc.holdoverSince = some 0 ∧
    0 + 432000000 ≤ (onRef .holdover 0 432000000).tick ∧ (onRef .holdover 0 432000000).hc.stale = false ∧
    ((onRef .holdover 0 431999999).modHc (fun h => { h with holdoverSince := some 0 })).staleDue = false := by decide +kernel

/-- The source lane SILENT in LOCKED; another lane; the source lane in HOLDOVER, in NONE and under HOUSE_FULL. -/
theorem witness_LossAndStaleExpiries_lane :
    (onLane .locked 0 45000).hc.source = .lane 1 ∧ (onLane .locked 0 45000).hc.full = false ∧ (onLane .locked 0 45000).hc.state = .locked ∧
    (onLane .locked 0 45000).hc.source ≠ .lane 2 ∧ (onLane .holdover 0 45000).hc.state = .holdover ∧ (onLane .off 0 45000).hc.state = .off ∧
    ((onLane .locked 0 45000).modHc (fun h => { h with full := true })).hc.full = true := by decide +kernel

/-- A FOLLOW TIMECODE output lane, and one that is not. -/
theorem witness_HouseChangeReachesLanes :
    ((withOutput ⟨.running, some ⟨.timecode .f24 false .follow .take, some houseAtReset, 0⟩, none, some 0, 0, none, none, false⟩).output 2).newest =
      some ⟨.timecode .f24 false .follow .take, some houseAtReset, 0⟩ ∧
    (State.reset.output 2).newest = some ⟨.off, none, 0⟩ := by decide +kernel

/-- A FOLLOW configuration at F24. -/
def followSetup : OutSetup := ⟨.timecode .f24 false .follow .take, some houseAtReset, 0⟩

/-- A timeline that starts 100 ticks after the house one. -/
def laterHouse : Timeline := { houseAtReset with origin := 100 }

/-- The derived timeline unchanged, and changed on a WAITING lane and on a RUNNING one. -/
theorem witness_HouseChangeReachesLanes_follow :
    some houseAtReset = some (follow houseAtReset .f24 false) ∧ some houseAtReset ≠ some (follow laterHouse .f24 false) ∧
    ((withOutput ⟨.waiting, none, some followSetup, some 30000, 0, none, none, false⟩).output 2).waiting ≠ none ∧
    ((withOutput ⟨.waiting, none, some followSetup, some 30000, 0, none, none, false⟩).output 2).newest = some followSetup ∧
    ((withOutput ⟨.running, some followSetup, none, some 30000, 0, none,
      some ⟨⟨⟨0, 0, 0, 1⟩, false, false, true, 1, 0#24⟩, 0, 30000⟩, false⟩).output 2).waiting = none ∧
    ((withOutput ⟨.running, some followSetup, none, some 30000, 0, none,
      some ⟨⟨⟨0, 0, 0, 1⟩, false, false, true, 1, 0#24⟩, 0, 30000⟩, false⟩).output 2).newest = some followSetup := by decide +kernel

/-- NOW and T; due, held on rolling, held on time, and a NOW origin above the maximum. -/
theorem witness_SetHouseAppliesOrHolds :
    timelineOf 1 ⟨10, 0, 0, 0, 0⟩ (36000000#48).toNat = some ⟨.f24, false, 36000000, ⟨10, 0, 0, 0⟩⟩ ∧
    (tickAt 36000000 State.reset).takes 0 (.setHouse 0 1 ⟨10, 0, 0, 0, 0⟩ 1 36000000) = true ∧
    (tickAt 36000000 State.reset).takes 0 (.setHouse 0 1 ⟨10, 0, 0, 0, 0⟩ 0 36000000) = true ∧
    (tickAt 36000000 State.reset).tt.rollingCount = 0 ∧ 0 < (withTake .rolling).tt.rollingCount ∧
    (withTake .rolling).takes 0 (.setHouse 0 1 ⟨10, 0, 0, 0, 0⟩ 1 36000000) = true ∧
    (withTake .rolling).takes 0 (.setHouse 0 1 ⟨10, 0, 0, 0, 0⟩ 0 36000000) = true ∧
    State.reset.tick < 36000000 ∧ gridAtOrAfter 30000 (tickAt 36000000 State.reset).tick ≤ Config.maxTick ∧
    Config.maxTick < gridAtOrAfter 30000 (tickAt 281474976710655 State.reset).tick := by decide +kernel

/-- Time code 2; rate class 10; label flags 2; hour 24; and the drop flag at F24. -/
theorem witness_SetHouseAppliesOrHolds_refused :
    ([.setHouse 0 1 ⟨10, 0, 0, 0, 0⟩ 2 0, .setHouse 0 10 ⟨10, 0, 0, 0, 0⟩ 1 0, .setHouse 0 1 ⟨10, 0, 0, 0, 2⟩ 1 0,
      .setHouse 0 1 ⟨24, 0, 0, 0, 0⟩ 1 0, .setHouse 0 1 ⟨10, 0, 0, 0, 1⟩ 1 0] : List Instr).all (State.reset.takes 0) = true ∧
    1 < (2#8).toNat ∧ 9 < (10#8).toNat ∧ rateOf 1 = some .f24 ∧ labelValid .f24 ((0#8).getLsbD 0) ⟨(24#8).toNat, 0, 0, 0⟩ = false ∧
    labelValid .f24 ((1#8).getLsbD 0) ⟨(10#8).toNat, 0, 0, 0⟩ = false := by decide +kernel

theorem witness_SetHouseAppliesOrHolds_due :
    ((tickAt 100 State.reset).modTu (fun t => { t with change := some ⟨⟨.f24, false, 100, ⟨1, 0, 0, 0⟩⟩, false⟩ })).tu.change =
      some ⟨⟨.f24, false, 100, ⟨1, 0, 0, 0⟩⟩, false⟩ ∧
    100 ≤ (tickAt 100 State.reset).tick ∧ (tickAt 100 State.reset).tt.rollingCount = 0 ∧ 0 < (withTake .rolling).tt.rollingCount ∧
    State.reset.tu.change = none ∧ (tickAt 99 State.reset).tick < 100 := by decide +kernel

theorem witness_JamSetsHouseFromLane :
    laneOf 1 = some 1 ∧ (withTake .rolling).takes 0 (.jam 0 1) = true ∧ 0 < (withTake .rolling).tt.rollingCount ∧
    State.reset.takes 0 (.jam 0 1) = true ∧ State.reset.tt.rollingCount = 0 ∧ (State.reset.input 1).settings.kind ≠ .timecode ∧
    ((withLane .tracking).input 1).settings.kind = .timecode ∧ ((withLane .tracking).input 1).state = .tracking ∧
    ((withLane .tracking).input 1).good.isSome = true ∧ (((withLane .tracking).input 1).good.bind GoodArrival.fields).isSome = true ∧
    (withLane .tracking).ratesMatch 1 = true ∧
    ((withLane .tracking).modTu (fun t => { t with house := { houseAtReset with rate := .f25 } })).ratesMatch 1 = false ∧
    ((laneWith (camera .f24) houseAtReset .tracking 1999 ⟨0, 0, 0, 0⟩).good.map GoodArrival.tFrame) = some (-1) ∧
    ((laneWith (camera .f24) houseAtReset .tracking 2000 ⟨0, 0, 0, 0⟩).good.map GoodArrival.tFrame) = some 0 := by decide +kernel

theorem witness_JamSetsHouseFromLane_lane : State.reset.takes 0 (.jam 0 8) = true ∧ 7 < (8#8).toNat ∧ (7#8).toNat = (7 : LaneId).val := by
  decide +kernel

theorem witness_UnjamAndAutojam :
    (withTake .rolling).takes 0 (.unjam 0) = true ∧ State.reset.takes 0 (.unjam 0) = true ∧ 0 < (withTake .rolling).tt.rollingCount ∧
    State.reset.tu.history = [] ∧ (State.reset.modTu (fun t => { t with history := [houseAtReset] })).tu.history = houseAtReset :: [] ∧
    State.reset.takes 0 (.setAutojam 0 7) = true ∧ (7#8).toNat = (7 : LaneId).val ∧ 8 ≤ (8#8).toNat ∧ 8#8 ≠ 0xFF#8 ∧
    State.reset.takes 0 (.setAutojam 0 8) = true ∧ State.reset.takes 0 (.setAutojam 0 0xFF) = true := by decide +kernel

/-- A trigger that jams; and the triggers skipped: not set, no good word, and t_frame −1. -/
theorem witness_UnjamAndAutojam_trigger :
    ((withLane .tracking).modTu (fun t => { t with autoJam := some 1 })).tu.autoJam = some 1 ∧ ((withLane .tracking).input 1).settings.kind = .timecode ∧
    (withLane .tracking).tt.rollingCount = 0 ∧ ((withLane .tracking).input 1).settings.rate = (withLane .tracking).tu.house.rate ∧
    ((withLane .tracking).input 1).settings.drop = (withLane .tracking).tu.house.drop ∧
    ((withLane .tracking).input 1).good.map GoodArrival.tFrame = some 990000 ∧ (withLane .tracking).tu.autoJam ≠ some 1 ∧
    (State.reset.input 1).good = none ∧ (State.reset.input 1).settings.kind ≠ .timecode ∧ 0 < (withTake .rolling).tt.rollingCount ∧
    ((laneWith (camera .f24) houseAtReset .tracking 1999 ⟨0, 0, 0, 0⟩).good.map GoodArrival.tFrame) = some (-1) := by decide +kernel

/-- Refused for a ROLLING take's lane whose kind would change; accepted on a SILENT lane and on a TRACKING one. -/
theorem witness_SetInputClearsLane :
    laneOf 0 = some 0 ∧ inSettingsOf 1 1 0 0 0 16 3 3000 = some ⟨.timecode, .f24, false, .camera, 0, 16, 3, 3000⟩ ∧
    (withTake .rolling).takes 0 (.setInput 0 0 1 1 0 0 0 16 3 3000) = true ∧ ((withTake .rolling).rollingTakeOf 0).isSome = true ∧
    ((withTake .rolling).input 0).settings.changesLane ⟨.timecode, .f24, false, .camera, 0, 16, 3, 3000⟩ = true ∧
    (State.reset.rollingTakeOf 0).isSome = false ∧ (State.reset.input 0).state = .silent ∧ ((withLane .tracking).rollingTakeOf 1).isSome = false ∧
    ((withLane .tracking).input 1).state ≠ .silent := by decide +kernel

/-- Lane 8, kind 3, rate class 10, drop mode 2, role 4, and drop at F24; fields that are stored, at their least. -/
theorem witness_SetInputClearsLane_refused :
    ([.setInput 0 8 1 1 0 0 0 16 3 3000, .setInput 0 0 3 1 0 0 0 16 3 3000, .setInput 0 0 1 10 0 0 0 16 3 3000,
      .setInput 0 0 1 1 2 0 0 16 3 3000, .setInput 0 0 1 1 0 4 0 16 3 3000, .setInput 0 0 1 1 1 0 0 16 3 3000,
      .setInput 0 0 1 3 1 0 0 0 0 0] : List Instr).all (State.reset.takes 0) = true ∧
    7 < (8#8).toNat ∧ 2 < (3#8).toNat ∧ 9 < (10#8).toNat ∧ 1 < (2#8).toNat ∧ 3 < (4#8).toNat ∧ (1#8) ≠ 3#8 ∧ (1#8) ≠ 8#8 ∧
    inKindOf 1 = some .timecode ∧ rateOf 3 = some .f29 ∧ switchOf 1 = some true ∧ roleOf 0 = some .camera ∧ dropFits .f29 true = true := by
  decide +kernel

theorem witness_ReadInputAndStatusClear :
    State.reset.takes 0 (.readInput 0 7) = true ∧ laneOf 7 = some 7 ∧ 8 ≤ (8#8).toNat ∧ State.reset.takes 0 (.readInput 0 8) = true := by
  decide +kernel

theorem witness_CaptureAndPeek :
    laneOf 0 = some 0 ∧ State.reset.takes 0 (.capture 0 0 2 1) = true ∧ captureModeOf 2 = some .continuous ∧
    State.reset.takes 0 (.peek 0 0 4) = true ∧ 1 ≤ (1#8).toNat ∧ (4#8).toNat ≤ 4 ∧ (0#8).toNat = 0 ∧ 4 < (5#8).toNat ∧
    State.reset.takes 0 (.peek 0 0 5) = true ∧ State.reset.takes 0 (.peek 0 0 0) = true := by decide +kernel

/-- Lane 8 and mode 3; a queue of 3 words and one of 4 under ONE and CONTINUOUS; OVERRUN; OFF. -/
theorem witness_CaptureAndPeek_offer :
    State.reset.takes 0 (.capture 0 8 2 0) = true ∧ State.reset.takes 0 (.capture 0 0 3 0) = true ∧ State.reset.takes 0 (.peek 0 8 1) = true ∧
    7 < (8#8).toNat ∧ 2 < (3#8).toNat ∧ (7#8).toNat = (7 : LaneId).val ∧ (clearedInput factoryInput none).captureMode = .off ∧
    CaptureMode.one ≠ .off ∧ CaptureMode.continuous ≠ .off ∧ (clearedInput factoryInput none).overrun = false ∧
    (List.replicate 3 (Captured.mk 0 .good 0 0)).length < 4 ∧ 4 ≤ (List.replicate 4 (Captured.mk 0 .good 0 0)).length ∧
    ({ clearedInput factoryInput none with captureMode := .continuous, overrun := true } : InLane).overrun = true := by decide +kernel

/-- No word on a lane of kind OFF; an error word in each tracking state, with the error run at 1 and at 2. -/
theorem witness_ErrorWordsAndFrames :
    (State.reset.input 1).settings.kind ≠ .timecode ∧ wordSync 0 ≠ 0x3F4#10 ∧ wordSync (0x3F4#10 ++ 0#62) = 0x3F4#10 ∧
    judgeWord ((withLane .tracking).input 1).settings (0x3F4#10 ++ 0#62) ≠ .good ∧ ((withLane .silent).input 1).state = .silent ∧
    ((withLane .seeking).input 1).state = .seeking ∧ ((withLane .tracking).input 1).errorRun < 2 ∧
    2 ≤ (((withLane .tracking).modInput 1 (fun v => { v with errorRun := 2 })).input 1).errorRun ∧
    (∃ t, exec (.wordArrival 1 0) State.reset = .next t) := by
  refine ⟨by decide, by decide, by decide, by decide +kernel, rfl, rfl, by decide, by decide, _, rfl⟩

theorem witness_GoodArrivalsAdvanceTracking :
    (State.reset.input 0).settings.kind ≠ .pulse ∧
    ((State.reset.modInput 0 (fun _ => clearedInput { factoryInput with kind := .pulse } none)).input 0).settings.kind = .pulse ∧
    ((State.reset.modInput 0 (fun _ => clearedInput { factoryInput with kind := .pulse } none)).input 0).state = .silent ∧
    ((withLane .silent).input 1).settings.kind = .timecode ∧ ((withLane .silent).input 1).expected = some houseAtReset ∧
    wordSync (wordOfFields ⟨⟨0, 0, 1, 10⟩, false, false, false, 1, 0#24⟩) = 0x3F4#10 ∧
    judgeWord ((withLane .silent).input 1).settings (wordOfFields ⟨⟨0, 0, 1, 10⟩, false, false, false, 1, 0#24⟩) = .good ∧
    ((withLane .seeking).input 1).seeking = 3 ∧ ((withLane .seeking).input 1).good.map GoodArrival.frameNo = some 33 ∧
    frameNumber .f24 false (fieldsOfBits (wordBits (wordOfFields ⟨⟨0, 0, 1, 10⟩, false, false, false, 1, 0#24⟩))).label =
      (33 + 1) % framesPerDay .f24 false := by decide +kernel

/-- Statistics windows of 16: the 15th offset, and the 16th, which closes the window. -/
theorem witness_GoodArrivalsAdvanceTracking_window :
    14 + 1 < (camera .f24).window ∧ (camera .f24).window ≤ 15 + 1 ∧ (clearedInput (camera .f24) none).window.count = 0 := by decide

/-- The word labelled one after lane 1's latest good word. -/
def nextWord : FrameWord := wordOfFields ⟨⟨0, 0, 1, 10⟩, false, true, true, 1, 0#24⟩

/-- Lane 1 with the seeking count given. -/
def seekingAt (n : Nat) : State := (withLane .seeking).modInput 1 (fun v => { v with seeking := n })

/-- A word one after the previous at the seeking counts 0, 1, 2 and 3; one that is not; in its slot in TRACKING, and two missed slots later. -/
theorem witness_GoodArrivalsContinueTracking :
    wordSync nextWord = 0x3F4#10 ∧ judgeWord ((withLane .seeking).input 1).settings nextWord = .good ∧
    ((withLane .seeking).input 1).expected = some houseAtReset ∧ ((withLane .seeking).input 1).settings.kind = .timecode ∧
    ((withLane .seeking).input 1).good.map GoodArrival.frameNo = some 33 ∧
    frameNumber .f24 false (fieldsOfBits (wordBits nextWord)).label = (33 + 1) % framesPerDay .f24 false ∧
    ((seekingAt 0).input 1).seeking = 0 ∧ 0 < ((seekingAt 1).input 1).seeking ∧ ((seekingAt 2).input 1).seeking < 3 ∧
    3 ≤ ((seekingAt 3).input 1).seeking ∧ ((seekingAt 3).input 1).state = .seeking ∧
    34 ≠ (32 + 1) % framesPerDay .f24 false ∧ ((withLane .tracking).input 1).state = .tracking ∧ ((withLane .tracking).input 1).missed = 0 ∧
    34 ≠ (33 + (1 + 2)) % framesPerDay .f24 false := by decide +kernel

/-- A PULSE lane whose latest edge lies at tick 992,000. -/
def pulseLane (st : Tracking) : State :=
  tickAt 1022000 (State.reset.modInput 1 (fun _ =>
    { clearedInput { camera .f24 with kind := .pulse, lead := 0 } none with
      state := st, seeking := 3, latest := some ⟨.good, 992000⟩, good := some ⟨992000, 992000, none, 0⟩, lock := some 0 }))

/-- Edges one period after the latest at −q and +q of their slot, q = 3,750, and one tick outside it. -/
theorem witness_GoodArrivalsContinueTracking_pulse :
    ((pulseLane .tracking).input 1).settings.kind = .pulse ∧ ((pulseLane .tracking).input 1).good = some ⟨992000, 992000, none, 0⟩ ∧
    ((pulseLane .seeking).input 1).state = .seeking ∧ ((pulseLane .tracking).input 1).state = .tracking ∧ RateCode.f24.period / 8 = 3750 ∧
    ((1 * 30000 : Nat) : Int) - (3750 : Nat) ≤ (tickAt 1018250 (pulseLane .tracking)).tick - 992000 ∧
    ((tickAt 1025750 (pulseLane .tracking)).tick : Int) - 992000 ≤ ((1 * 30000 : Nat) : Int) + (3750 : Nat) ∧
    ¬ (((1 * 30000 : Nat) : Int) - (3750 : Nat) ≤ (tickAt 1018249 (pulseLane .tracking)).tick - 992000) ∧
    ¬ (((tickAt 1025751 (pulseLane .tracking)).tick : Int) - 992000 ≤ ((1 * 30000 : Nat) : Int) + (3750 : Nat)) := by decide +kernel

/-- No lock; the rebaseline mark; an offset at the tolerance of 3,000 and one beyond it; run and clap flags by level, entry and role. -/
theorem witness_SlipRunAndClapFlags :
    ((withLane .silent).modInput 1 (fun v => { v with lock := none })).inputs.at1.lock = none ∧
    ((withLane .tracking).modInput 1 (fun v => { v with rebaseline := true })).inputs.at1.rebaseline = true ∧
    ((withLane .tracking).input 1).rebaseline = false ∧ ((withLane .tracking).input 1).lock = some 0 ∧
    ((3000 : Int) - 0).natAbs ≤ ((withLane .tracking).input 1).settings.tolerance ∧
    ((withLane .tracking).input 1).settings.tolerance < ((-3001 : Int) - 0).natAbs ∧
    ((withLane .tracking).input 1).settings.role = .camera ∧ ((withLane .tracking).input 1).runLevel = false ∧
    ((withLane .tracking).modInput 1 (fun v => { v with runLevel := true })).inputs.at1.runLevel = true ∧
    ({ camera .f24 with role := .slate } : InSettings).role = .slate ∧ ((withLane .tracking).input 1).clapLevel = false ∧
    State.reset.su.lockout = none ∧ (((1143999 : Nat) : Int) - (1000000 : Nat)).natAbs < 144000 ∧
    144000 ≤ (((1144000 : Nat) : Int) - (1000000 : Nat)).natAbs ∧ (tickAt 0 State.reset).hc.full = false := by decide +kernel

/-- Each expiry due at its tick and not one tick before it; with a DROPOUT and without. -/
theorem witness_MissingAndSilenceExpiries :
    ((withLane .tracking).input 1).good.map GoodArrival.arrival = some 992000 ∧
    992000 + (1 + ((withLane .tracking).input 1).missed) * RateCode.f24.period + RateCode.f24.period / 2 < (tickAt 1037001 (withLane .tracking)).tick ∧
    (tickAt 1037000 (withLane .tracking)).missingDue 1 = false ∧
    ((withLane .seeking).input 1).state ≠ .silent ∧ ((withLane .seeking).input 1).latest = some ⟨.good, 992000⟩ ∧
    992000 + ((withLane .seeking).input 1).settings.silence * RateCode.f24.period ≤ (tickAt 1082000 (withLane .seeking)).tick ∧
    (tickAt 1081999 (withLane .seeking)).silenceDue 1 = false ∧ ((withLane .seeking).input 1).runLevel = false ∧
    (((withLane .tracking).modInput 1 (fun v => { v with runLevel := true })).input 1).runLevel = true ∧
    ((withLane .tracking).input 1).settings.role = .camera := by decide +kernel

theorem witness_SetOutputCutsLane :
    State.reset.takes 0 (.setOutput 0 2 3 (.wordclock 1 0)) = true ∧ laneOf 2 = some 2 ∧
    outConfigOf 3 (.wordclock 1 0) = some (.wordclock .s48 .straight) ∧ outConfigOf 0 .bare = some .off ∧
    outConfigOf 1 (.pulse 1 96 0 0 1) = some (.pulse (.custom 96) false 0 1) ∧ laneOf 8 = none ∧ outConfigOf 3 .bare = none ∧
    (setupOf houseAtReset 7500 (.pulse (.custom 96) false 0 1)).effectBoundary 7500 = 7500 ∧
    (setupOf houseAtReset 7501 (.pulse (.custom 96) false 0 1)).effectBoundary 7501 ≠ 7501 := by decide +kernel

/-- R84: the effect boundary of each kind, on a boundary and one tick after it. -/
theorem witness_SetOutputCutsLane_boundary :
    (setupOf houseAtReset 30000 (.pulse (.code .f24) false 0 1)).effectBoundary 30000 = 30000 ∧
    (setupOf houseAtReset 30001 (.pulse (.code .f24) false 0 1)).effectBoundary 30001 = 60000 ∧
    (setupOf laterHouse 30100 (.timecode .f24 false .follow .take)).effectBoundary 30100 = 30100 ∧
    (setupOf laterHouse 30101 (.timecode .f24 false .follow .take)).effectBoundary 30101 = 60100 ∧
    (setupOf houseAtReset 7 (.wordclock .s48 .up)).effectBoundary 7 = 7 ∧ (setupOf houseAtReset 7 .off).effectBoundary 7 = 7 := by
  decide +kernel

/-- R83, each field of PULSE: class 9 and 10, drop with classes 3 and 4, drop mode 2, form 2; customs 120, 121, 7 and 0, and a custom with drop;
placement and duration at and beyond the last tick of the frame, and duration 0. -/
theorem witness_SetOutputCutsLane_pulse :
    outConfigOf 1 (.pulse 0 9 0 11999 11999) = some (.pulse (.code .f60) false 11999 11999) ∧
    outConfigOf 1 (.pulse 0 9 0 12000 12000) = some (.pulse (.code .f60) false 11999 11999) ∧
    outConfigOf 1 (.pulse 0 3 1 0 0) = some (.pulse (.code .f29) true 0 1) ∧ outConfigOf 1 (.pulse 0 4 1 0 0) = none ∧
    outConfigOf 1 (.pulse 0 10 0 0 0) = none ∧ outConfigOf 1 (.pulse 0 3 2 0 0) = none ∧ outConfigOf 1 (.pulse 2 1 0 0 0) = none ∧
    outConfigOf 1 (.pulse 1 120 0 6000 0) = some (.pulse (.custom 120) false 5999 1) ∧ outConfigOf 1 (.pulse 1 121 0 0 0) = none ∧
    outConfigOf 1 (.pulse 1 7 0 0 0) = none ∧ outConfigOf 1 (.pulse 1 0 0 0 0) = none ∧ outConfigOf 1 (.pulse 1 120 1 0 0) = none := by
  decide +kernel

/-- R83, each field of TIMECODE and WORDCLOCK: FOLLOW, OWN with a valid label and an invalid one, timeline 2, user 2, flags 2, class 10; sample
rates 3 and 4, pulls 2 and 3; lane 8, kind 4, and fields of another kind. -/
theorem witness_SetOutputCutsLane_timecode :
    outConfigOf 2 (.timecode 8 0 9 ⟨24, 0, 0, 0, 1⟩ 0 5) = some (.timecode .f59 true .follow (.constant 5)) ∧
    outConfigOf 2 (.timecode 1 1 9 ⟨23, 59, 59, 23, 0⟩ 1 5) = some (.timecode .f24 false (.own 9 ⟨23, 59, 59, 23⟩) .take) ∧
    labelValid .f24 false ⟨23, 59, 59, 24⟩ = false ∧ outConfigOf 2 (.timecode 1 1 9 ⟨23, 59, 59, 24, 0⟩ 1 5) = none ∧
    outConfigOf 2 (.timecode 1 2 9 ⟨0, 0, 0, 0, 0⟩ 1 5) = none ∧ outConfigOf 2 (.timecode 1 0 9 ⟨0, 0, 0, 0, 0⟩ 2 5) = none ∧
    outConfigOf 2 (.timecode 3 0 9 ⟨0, 0, 0, 0, 2⟩ 1 5) = none ∧ outConfigOf 2 (.timecode 10 0 9 ⟨0, 0, 0, 0, 0⟩ 1 5) = none ∧
    outConfigOf 3 (.wordclock 3 2) = some (.wordclock .s96 .down) ∧ outConfigOf 3 (.wordclock 4 2) = none ∧
    outConfigOf 3 (.wordclock 3 3) = none ∧ outConfigOf 4 .bare = none ∧ outConfigOf 0 (.wordclock 1 0) = none ∧ 7 < (8#8).toNat ∧
    State.reset.takes 0 (.setOutput 0 8 0 .bare) = true := by decide +kernel

theorem witness_EffectBoundaryPulsesAndEdges :
    (tickAt 30000 (withOutput ⟨.waiting, none, some ⟨.pulse (.code .f24) false 0 720, none, 0⟩, some 30000, 0, none, none, false⟩)).effectDue 2 = true ∧
    (tickAt 29999 (withOutput ⟨.waiting, none, some ⟨.pulse (.code .f24) false 0 720, none, 0⟩, some 30000, 0, none, none, false⟩)).effectDue 2 = false ∧
    ((withOutput ⟨.running, some ⟨.pulse (.code .f24) false 0 720, none, 0⟩, none, some 30000, 0, some 720, none, false⟩).output 2).inForce =
      some ⟨.pulse (.code .f24) false 0 720, none, 0⟩ ∧
    30000 + 0 ≤ (tickAt 30000 State.reset).tick ∧ 720 ≤ (tickAt 720 State.reset).tick ∧
    (tickAt 29999 (withOutput ⟨.running, some ⟨.pulse (.code .f24) false 0 720, none, 0⟩, none, some 30000, 0, none, none, false⟩)).pulseStartDue 2 = false ∧
    (tickAt 719 (withOutput ⟨.running, some ⟨.pulse (.code .f24) false 0 720, none, 0⟩, none, some 30000, 0, some 720, none, false⟩)).pulseEndDue 2 = false := by
  decide +kernel

theorem witness_EffectBoundaryPulsesAndEdges_wordclock :
    ((withOutput ⟨.running, some ⟨.wordclock .s48 .straight, none, 0⟩, none, some 15, 1, some 8, none, false⟩).output 2).inForce =
      some ⟨.wordclock .s48 .straight, none, 0⟩ ∧
    (tickAt 15 (withOutput ⟨.running, some ⟨.wordclock .s48 .straight, none, 0⟩, none, some 15, 1, some 8, none, false⟩)).riseDue 2 = true ∧
    (tickAt 14 (withOutput ⟨.running, some ⟨.wordclock .s48 .straight, none, 0⟩, none, some 15, 1, some 8, none, false⟩)).riseDue 2 = false ∧
    (tickAt 8 (withOutput ⟨.running, some ⟨.wordclock .s48 .straight, none, 0⟩, none, some 15, 1, some 8, none, false⟩)).fallDue 2 = true ∧
    (tickAt 7 (withOutput ⟨.running, some ⟨.wordclock .s48 .straight, none, 0⟩, none, some 15, 1, some 8, none, false⟩)).fallDue 2 = false := by
  decide +kernel

theorem witness_WordComposedAtBoundary :
    ((withOutput ⟨.running, some ⟨.timecode .f24 false .follow .take, some houseAtReset, 0⟩, none, some 60000, 0, none, none, true⟩).output 2).inForce =
      some ⟨.timecode .f24 false .follow .take, some houseAtReset, 0⟩ ∧
    (tickAt 60000 (withOutput ⟨.running, some ⟨.timecode .f24 false .follow .take, some houseAtReset, 0⟩, none, some 60000, 0, none, none, true⟩)).compositionDue 2 = true ∧
    (tickAt 59999 (withOutput ⟨.running, some ⟨.timecode .f24 false .follow .take, some houseAtReset, 0⟩, none, some 60000, 0, none, none, true⟩)).compositionDue 2 = false := by
  decide +kernel

/-- Scene "1", empty shot, take 999, lane 1 as its one participant; a table with no eviction. -/
theorem witness_ArmAppendsRecord :
    (withLane .silent).takes 0 (.arm 0 [0x31, 0, 0, 0, 0, 0, 0, 0] [0, 0, 0, 0] 999 3 1 [1, 0, 0, 0, 0, 0, 0, 0]) = true ∧
    textOf [0x31, 0, 0, 0, 0, 0, 0, 0] = some [0x31] ∧ textOf [0, 0, 0, 0] = some [] ∧
    participantsOf 1 [1, 0, 0, 0, 0, 0, 0, 0] = some [1] ∧ (999#16).toNat ≤ 999 ∧ (3#8).toNat ≤ 3 ∧
    (∀ i, i ∈ ([1] : List LaneId) → ((withLane .silent).input i).settings.kind = .timecode ∧ ((withLane .silent).input i).settings.role = .camera) ∧
    (withLane .silent).tt.takes = [] ∧ (withLane .silent).tt.openCount ≠ 8 ∧ (withLane .silent).tt.tableCount ≠ 64 ∧
    (withLane .silent).evicted = none := by decide +kernel

/-- A take of the one participant lane 0, CLOSED and collected. -/
def collectedTake : Take := { takeIn .closed with collected := 1#4 }

/-- Each refusal: characters (an empty scene, one with the character 0x1F, take 0 and 1,000, flags 4, no participant), an OFF lane and a lane twice, a
take that is held, 8 open takes, and a full table with none to evict and with one. -/
theorem witness_ArmAppendsRecord_refused :
    ([.arm 0 [0, 0, 0, 0, 0, 0, 0, 0] [0, 0, 0, 0] 1 0 1 [1, 0, 0, 0, 0, 0, 0, 0],
      .arm 0 [0x1F, 0, 0, 0, 0, 0, 0, 0] [0, 0, 0, 0] 1 0 1 [1, 0, 0, 0, 0, 0, 0, 0],
      .arm 0 [0x31, 0, 0, 0, 0, 0, 0, 0] [0, 0, 0, 0] 0 0 1 [1, 0, 0, 0, 0, 0, 0, 0],
      .arm 0 [0x31, 0, 0, 0, 0, 0, 0, 0] [0, 0, 0, 0] 1000 0 1 [1, 0, 0, 0, 0, 0, 0, 0],
      .arm 0 [0x31, 0, 0, 0, 0, 0, 0, 0] [0, 0, 0, 0] 1 4 1 [1, 0, 0, 0, 0, 0, 0, 0],
      .arm 0 [0x31, 0, 0, 0, 0, 0, 0, 0] [0, 0, 0, 0] 1 0 0 [1, 0, 0, 0, 0, 0, 0, 0],
      .arm 0 [0x31, 0, 0, 0, 0, 0, 0, 0] [0, 0, 0, 0] 1 0 2 [1, 1, 0, 0, 0, 0, 0, 0]] : List Instr).all ((withLane .silent).takes 0) = true ∧
    textOf [0, 0, 0, 0, 0, 0, 0, 0] = some [] ∧ textOf [0x1F, 0, 0, 0, 0, 0, 0, 0] = none ∧ (0#16).toNat = 0 ∧ 999 < (1000#16).toNat ∧
    3 < (4#8).toNat ∧ participantsOf 0 [1, 0, 0, 0, 0, 0, 0, 0] = none ∧ participantsOf 2 [1, 1, 0, 0, 0, 0, 0, 0] = some [1, 1] ∧
    ¬ ([1, 1] : List LaneId).Nodup ∧ (State.reset.input 0).settings.kind ≠ .timecode ∧
    ((takeIn .armed).state ≠ .closed ∧ (takeIn .armed).scene = [0x31] ∧ (takeIn .armed).shot = [] ∧ (takeIn .armed).number = 1) ∧
    (State.reset.modTt (fun tt => { tt with openCount := 8 })).tt.openCount = 8 ∧
    (State.reset.modTt (fun tt => { tt with tableCount := 64 })).evicted = none ∧
    (State.reset.modTt (fun tt => { tt with tableCount := 64, takes := [takeIn .closed, collectedTake] })).evicted = some collectedTake := by
  decide +kernel

/-- R98, R102: text full, with a tail of 0x00, with a character after the tail, and with a lower-case letter; 8 and 9 slots, lanes 7 and 8. -/
theorem witness_ArmAppendsRecord_fields :
    textOf [0x41, 0x5A, 0x30, 0x39] = some [0x41, 0x5A, 0x30, 0x39] ∧ textOf [0x2D, 0x2E, 0, 0] = some [0x2D, 0x2E] ∧
    textOf [0x41, 0, 0x41, 0] = none ∧ textOf [0x61, 0, 0, 0] = none ∧ textOf [0x5B] = none ∧ textOf [0x2F] = none ∧
    participantsOf 8 [7, 6, 5, 4, 3, 2, 1, 0] = some [7, 6, 5, 4, 3, 2, 1, 0] ∧ participantsOf 9 [7, 6, 5, 4, 3, 2, 1, 0] = none ∧
    participantsOf 1 [7, 8, 8, 8, 8, 8, 8, 8] = some [7] ∧ participantsOf 2 [7, 8, 8, 8, 8, 8, 8, 8] = none := by decide +kernel

/-- The next id: free; held at 65,535, where it wraps to 1. -/
theorem witness_ArmAppendsRecord_id :
    1 ≤ State.reset.tt.nextId ∧ State.reset.tt.nextId ≤ 65535 ∧ State.reset.tt.takes.length < 65535 ∧ State.reset.tt.giveId = 1 ∧
    ({ State.reset.tt with nextId := 65535, takes := [{ takeIn .cut with id := 65535 }] } : TakeTable).giveId = 1 := by decide +kernel

theorem witness_RollStartsTake :
    State.reset.takes 0 (.roll 0 1) = true ∧ State.reset.take? 1 = none ∧ (withTake .cut).takes 0 (.roll 0 1) = true ∧
    (withTake .cut).take? 1 = some (takeIn .cut) ∧ (takeIn .cut).state ≠ .armed ∧ (withTake .armed).take? 1 = some (takeIn .armed) ∧
    (withTake .armed).takes 0 (.roll 0 1) = true ∧ (withTake .armed).tt.rollingCount ≠ 4 ∧ (withTake .armed).lanesBusy (takeIn .armed) = false ∧
    ((withTake .armed).modTt (fun tt => { tt with rollingCount := 4 })).tt.rollingCount = 4 ∧
    ((withTake .armed).modTt (fun tt => { tt with takes := tt.takes ++ [{ takeIn .rolling with id := 2 }] })).lanesBusy (takeIn .armed) = true := by
  decide +kernel

/-- The last of one ROLLING take with no change, a change held on rolling, and one held on time whose origin is ahead. -/
theorem witness_CutEndsTake :
    State.reset.takes 0 (.cut 0 1) = true ∧ State.reset.take? 1 = none ∧ (withTake .armed).take? 1 = some (takeIn .armed) ∧
    (withTake .armed).takes 0 (.cut 0 1) = true ∧ (withTake .rolling).takes 0 (.cut 0 1) = true ∧
    (withTake .rolling).take? 1 = some (takeIn .rolling) ∧ (withTake .rolling).tt.rollingCount ≤ 1 ∧ (withTake .rolling).tu.change = none ∧
    ((withTake .rolling).modTu (fun t => { t with change := some ⟨houseAtReset, true⟩ })).tu.change = some ⟨houseAtReset, true⟩ ∧
    houseAtReset.origin ≤ (withTake .rolling).tick ∧ (withTake .rolling).tick < 2000000 := by decide +kernel

/-- The rolling count ended with a change held on rolling, one held on time whose origin is now, and one whose origin is ahead. -/
theorem witness_CutEndsTake_ended :
    State.reset.tu.change = none ∧
    ((tickAt 100 State.reset).modTu (fun t => { t with change := some ⟨laterHouse, true⟩ })).tu.change = some ⟨laterHouse, true⟩ ∧
    ((tickAt 100 State.reset).modTu (fun t => { t with change := some ⟨laterHouse, false⟩ })).tu.change = some ⟨laterHouse, false⟩ ∧
    laterHouse.origin ≤ (tickAt 100 State.reset).tick ∧ (tickAt 99 State.reset).tick < laterHouse.origin := by decide +kernel

theorem witness_CloseVoidRateAndCollect :
    State.reset.takes 0 (.close 0 1) = true ∧ (withTake .cut).takes 0 (.close 0 1) = true ∧ (withTake .cut).take? 1 = some (takeIn .cut) ∧
    State.reset.takes 0 (.void 0 1) = true ∧ State.reset.take? 1 = none ∧ (withTake .rolling).take? 1 = some (takeIn .rolling) ∧
    (withTake .rolling).takes 0 (.void 0 1) = true ∧ (withTake .closed).take? 1 = some (takeIn .closed) ∧ (takeIn .closed).collected = 0#4 ∧
    (withTake .closed).takes 0 (.void 0 1) = true ∧
    ((withTake .closed).modTake 1 (fun t => t.collectedBy 2)).take? 1 = some ((takeIn .closed).collectedBy 2) ∧
    ((takeIn .closed).collectedBy 2).collected ≠ 0#4 := by decide +kernel

theorem witness_CloseVoidRateAndCollect_rating :
    State.reset.takes 0 (.rate 0 1 3) = true ∧ ratingOf 3 = none ∧ ratingOf 2 = some .noGood ∧ State.reset.takes 0 (.rate 0 1 2) = true ∧
    State.reset.take? 1 = none ∧ ((withTake .armed).take? 1).isSome = true ∧ (withTake .armed).takes 0 (.rate 0 1 2) = true ∧
    (withTake .armed).takes 0 (.collect 0 1) = true ∧ (takeIn .armed).state ≠ .closed ∧ (withTake .closed).takes 0 (.collect 0 1) = true ∧
    (withTake .closed).take? 1 = some (takeIn .closed) := by decide +kernel

/-- An ARMED take; NOW on a CUT take; ticks at the start and one before it, at the bound and one after it; 15 marks and 16. -/
theorem witness_MarkIsStoredInOrder :
    (withTake .armed).takes 0 (.mark 0 1 1 500000 3) = true ∧ (withTake .armed).take? 1 = some (takeIn .armed) ∧
    (withTake .cut).takes 0 (.mark 0 1 0 0 3) = true ∧ (takeIn .cut).state ≠ .rolling ∧ (withTake .cut).take? 1 = some (takeIn .cut) ∧
    (withTake .cut).takes 0 (.mark 0 1 1 500000 3) = true ∧ (takeIn .cut).start.getD 0 ≤ (500000#48).toNat ∧
    (499999#48).toNat < (takeIn .cut).start.getD 0 ∧ (900000#48).toNat ≤ (takeIn .cut).endTick.getD 0 ∧
    (takeIn .cut).endTick.getD 0 < (900001#48).toNat ∧ (takeIn .cut).marks.length < 16 ∧ withFullTake.take? 1 = some fullTake ∧
    withFullTake.takes 0 (.mark 0 1 0 0 3) = true ∧ 16 ≤ fullTake.marks.length ∧ fullTake.state = .rolling := by decide +kernel

/-- Tick mode 2; an id that no record holds. -/
theorem witness_MarkIsStoredInOrder_refused :
    (withTake .cut).takes 0 (.mark 0 1 2 0 3) = true ∧ 1 < (2#8).toNat ∧ (withTake .cut).takes 0 (.mark 0 2 1 0 3) = true ∧
    (1#8).toNat ≤ 1 ∧ (withTake .cut).take? (2#16).toNat = none := by decide +kernel

/-- Reset with an ARMED AUTO_ROLL take on lane 0. -/
def withAuto : State := (withTake .armed).modTake 1 (fun t => { t with autoRoll := true })

/-- Reset with a ROLLING AUTO_CUT take whose one participant is as given. -/
def withParticipant (run stopped : Bool) : State :=
  (withTake .rolling).modTake 1 (fun t => { t with autoCut := true, participants := [⟨0, none, run, stopped, 0⟩] })

/-- A lane in a ROLLING take and lanes in none; an auto-roll accepted, and refused by the limit and by a busy lane; the auto-cut test passed,
failed by a participant still running, and failed with none that has run. -/
theorem witness_LaneEventsReachTakes :
    (withTake .rolling).rollingTakeOf 0 = some (takeIn .rolling) ∧ (withTake .rolling).rollingTakeOf 1 = none ∧ withAuto.rollingTakeOf 0 = none ∧
    withAuto.tt.takes = [] ++ { takeIn .armed with autoRoll := true } :: [] ∧ ({ takeIn .armed with autoRoll := true } : Take).lists 0 = true ∧
    (∀ t, t ∈ (withTake .armed).tt.takes → ¬ (t.state = .armed ∧ t.autoRoll = true ∧ t.lists 0 = true)) ∧
    withAuto.tt.rollingCount ≠ 4 ∧ withAuto.lanesBusy { takeIn .armed with autoRoll := true } = false ∧
    (withAuto.modTt (fun tt => { tt with rollingCount := 4 })).tt.rollingCount = 4 ∧
    (withAuto.modTt (fun tt => { tt with takes := { takeIn .rolling with id := 2, participants := [newParticipant 3] } :: tt.takes })).lanesBusy
      { takeIn .armed with autoRoll := true, participants := [newParticipant 0, newParticipant 3] } = true ∧
    ((withParticipant true true).take? 1).map Take.autoCutPasses = some true ∧
    ((withParticipant true false).take? 1).map Take.autoCutPasses = some false ∧
    ((withParticipant false false).take? 1).map Take.autoCutPasses = some false ∧ ((withParticipant true true).take? 1).isSome = true := by
  decide +kernel

theorem witness_MarkIsStoredInOrder_ordered : ([] : List Mark).Pairwise (fun a b => a.tick ≤ b.tick) := .nil

/-- R112: a mark goes after those at its own tick and before those above it. -/
theorem test_insert_mark :
    insertMark ⟨5, .mark, .link 1, 9⟩ [⟨4, .slip, .lane 0, 0⟩, ⟨5, .mark, .link 0, 1⟩, ⟨6, .slip, .lane 0, 0⟩] =
      [⟨4, .slip, .lane 0, 0⟩, ⟨5, .mark, .link 0, 1⟩, ⟨5, .mark, .link 1, 9⟩, ⟨6, .slip, .lane 0, 0⟩] := by decide

theorem witness_ReadClockReturnsFifteen : State.reset.takes 0 (.readClock 0) = true := by decide +kernel

theorem witness_ReadInputAndStatusClear_status : State.reset.takes 0 (.status 0) = true := by decide +kernel

theorem witness_ReadRequestsOnlyAnswer :
    (Instr.readPanel 0).onlyReads = true ∧ requestLink (.readPanel 0) = some 0 ∧ State.reset.takes 0 (.readPanel 0) = true ∧
    State.reset.takes 0 (.readClock 0) = true ∧ State.reset.takes 0 (.readReference 0) = true ∧ State.reset.takes 0 (.readOutput 0 7) = true ∧
    State.reset.takes 0 (.readTake 0 1) = true ∧ State.reset.takes 0 (.listTakes 0 63) = true ∧
    State.reset.takes 0 (.convert 0 0 ⟨0, List.replicate 12 0⟩ 0 none) = true := by decide +kernel

/-- Lanes 7 and 8, a take held and one not, positions 63 and 64. -/
theorem witness_ReadRequestsOnlyAnswer_clauses :
    (7#8).toNat = (7 : LaneId).val ∧ 8 ≤ (8#8).toNat ∧ State.reset.takes 0 (.readOutput 0 8) = true ∧
    withFullTake.take? 1 = some fullTake ∧ withFullTake.takes 0 (.readTake 0 1) = true ∧ withFullTake.take? (2#16).toNat = none ∧
    withFullTake.takes 0 (.readTake 0 2) = true ∧ (63#8).toNat ≤ 63 ∧ 64 ≤ (64#8).toNat ∧
    State.reset.takes 0 (.listTakes 0 64) = true := by decide +kernel

/-- Every direction taken; a valid label value, an invalid one, and an unknown direction. -/
theorem witness_ConvertOnEverySource :
    (List.replicate 12 (0#8)).length = 12 ∧
    (∀ d, d ∈ ([0, 1, 2, 3, 5] : List Byte) → State.reset.takes 0 (.convert 0 d ⟨0, List.replicate 12 0⟩ 0 none) = true) ∧
    State.reset.takes 0 (.convert 0 4 ⟨0, List.replicate 12 0⟩ 0 (some ⟨0, List.replicate 12 0⟩)) = true ∧
    valueLabel State.reset.tu.house 0 = some ⟨0, 0, 0, 0⟩ ∧ valueLabel State.reset.tu.house 0x000000180000#48 = none ∧ 5 ≤ (5#8).toNat := by
  decide +kernel

/-- Every direction without a usable source B where it needs one, and every kind of source: output lanes of each kind, input lanes of each kind,
explicit streams that are right and wrong, lanes 7 and 8, and kind 5. -/
theorem witness_ConvertOnEverySource_sources :
    State.reset.takes 0 (.convert 0 4 ⟨0, List.replicate 12 0⟩ 0 none) = true ∧
    State.reset.resolveTimeline ⟨1, List.replicate 12 0⟩ = none ∧ State.reset.resolveStream ⟨1, List.replicate 12 0⟩ = none ∧
    ((withOutput ⟨.running, some ⟨.pulse (.code .f24) false 0 720, none, 0⟩, none, some 30000, 0, none, none, false⟩).output 2).newest =
      some ⟨.pulse (.code .f24) false 0 720, none, 0⟩ ∧
    ((withOutput ⟨.running, some followSetup, none, some 30000, 0, none, none, false⟩).output 2).newest = some followSetup ∧
    ((withOutput ⟨.running, some ⟨.wordclock .s48 .straight, none, 0⟩, none, some 15, 1, some 8, none, false⟩).output 2).newest =
      some ⟨.wordclock .s48 .straight, none, 0⟩ ∧
    ((withOutput ⟨.waiting, none, none, none, 0, none, none, false⟩).output 2).newest = none ∧ (State.reset.input 0).settings.kind = .off ∧
    ((pulseLane .tracking).input 1).settings.kind = .pulse ∧ ((withLane .tracking).input 1).settings.kind = .timecode ∧
    ((withLane .tracking).input 1).expected = some houseAtReset ∧
    timelineOf (charAt (1 :: List.replicate 11 0) 0) (labelAtPos (1 :: List.replicate 11 0) 7) (numberAt (1 :: List.replicate 11 0) 1 6) =
      some houseAtReset ∧
    timelineOf (charAt (10 :: List.replicate 11 0) 0) (labelAtPos (10 :: List.replicate 11 0) 7) (numberAt (10 :: List.replicate 11 0) 1 6) = none ∧
    sampleRateOf 3 = some .s96 ∧ sampleRateOf 4 = none ∧ pullOf 2 = some .down ∧ pullOf 3 = none ∧ 8 ≤ (8#8).toNat ∧
    (7#8).toNat = (7 : LaneId).val ∧ 5 ≤ (5#8).toNat := by decide +kernel

/-- Ignored at 143,999, accepted at 144,000; a first clap, a second one, and a loose one. -/
theorem witness_ClapIsScreened :
    (withTake .rolling).takes 0 (.clap 0) = true ∧ State.reset.takes 0 (.clap 0) = true ∧ State.reset.su.lockout = none ∧
    (((1143999 : Nat) : Int) - (1000000 : Nat)).natAbs < 144000 ∧ 144000 ≤ (((1144000 : Nat) : Int) - (1000000 : Nat)).natAbs ∧
    (withTake .rolling).slateTake = some (takeIn .rolling) ∧ (takeIn .rolling).start.getD 0 ≤ (withTake .rolling).tick ∧
    (takeIn .rolling).clap = none ∧
    ((withTake .rolling).modTake 1 (fun t => { t with clap := some 600000 })).slateTake = some { takeIn .rolling with clap := some 600000 } ∧
    State.reset.slateTake = none ∧ (withTake .cut).slateTake = some (takeIn .cut) := by decide +kernel

/-- R132: the loose ring with 7 entries and with 8, and the overwrite count at 255; a clap of the CONTACT and of a lane by their stamps: first,
second, and loose one tick before the start. -/
theorem witness_ClapIsScreened_accepted :
    ({ State.reset.su with ring := List.replicate 7 ⟨0, .contact⟩ } : SlateUnit).ring.length < 8 ∧
    8 ≤ ({ State.reset.su with ring := List.replicate 8 ⟨0, .contact⟩, overwritten := 255 } : SlateUnit).ring.length ∧
    (({ State.reset.su with ring := List.replicate 8 ⟨0, .contact⟩, overwritten := 255 } : SlateUnit).addLoose ⟨1, .lane 3⟩).overwritten = 255 ∧
    (({ State.reset.su with ring := List.replicate 8 ⟨0, .contact⟩ } : SlateUnit).addLoose ⟨1, .lane 3⟩).ring.getLast? = some ⟨1, .lane 3⟩ ∧
    (takeIn .rolling).start.getD 0 ≤ 500000 ∧ 499999 < (takeIn .rolling).start.getD 0 ∧
    ((withTake .rolling).acceptClap 500000 .contact).2 = .first 1 ∧ ((withTake .rolling).acceptClap 499999 (.lane 3)).2 = .loose ∧
    (((withTake .rolling).modTake 1 (fun t => { t with clap := some 600000 })).acceptClap 500000 (.lane 3)).2 = .second 1 := by decide +kernel

theorem witness_SlateSettingsStored :
    State.reset.takes 0 (.setFlash 0 0 10 5) = true ∧ dutyCodeOf 5 = some .steady ∧
    State.reset.takes 0 (.setSlate 0 0 0 0 0 64 75 0) = true ∧ displayOf 0 0 = some .house ∧ displayOf 2 7 = some (.input 7) ∧
    (64#8).toNat ∈ [8, 16, 32, 64] ∧ (75#8).toNat ∈ [25, 50, 75] ∧ State.reset.takes 0 (.setSlate 0 2 0 0 0 8 25 0) = true ∧
    State.reset.takes 0 (.setSlate 0 1 1 0 0 8 25 0) = true ∧ State.reset.take? 1 = none ∧
    (withTake .closed).takes 0 (.setSlate 0 1 1 0 0 8 25 0) = true ∧ (withTake .closed).take? 1 = some (takeIn .closed) ∧
    (withTake .armed).takes 0 (.setSlate 0 1 1 0 0 8 25 0) = true ∧ (withTake .armed).take? 1 = some (takeIn .armed) ∧
    State.reset.takes 0 (.readLoose 0 0) = true ∧ State.reset.takes 0 (.readLoose 0 1) = true ∧ State.reset.takes 0 (.readLoose 0 2) = true ∧
    1 < (2#8).toNat := by decide +kernel

/-- Duty code 6; pointer 3; display kind 3; lane 8 shown; cycle 9; duty 26. -/
theorem witness_SlateSettingsStored_refused :
    ([.setFlash 0 1 3600 6, .setSlate 0 3 0 0 0 8 25 0, .setSlate 0 0 0 3 0 8 25 0, .setSlate 0 0 0 1 8 8 25 0, .setSlate 0 0 0 0 0 9 25 0,
      .setSlate 0 0 0 0 0 8 26 0] : List Instr).all (State.reset.takes 0) = true ∧
    5 < (6#8).toNat ∧ 2 < (3#8).toNat ∧ (1#8) ≠ 0#8 ∧ 7 < (8#8).toNat ∧ (9#8).toNat ∉ [8, 16, 32, 64] ∧ (26#8).toNat ∉ [25, 50, 75] := by
  decide +kernel

/-- The pointer explicit, AUTO with an empty list, AUTO with a ROLLING take and AUTO with a CUT one; each display source; each lamp state. -/
theorem witness_SlateTakeAndPanel :
    ((withTake .armed).modSu (fun u => { u with pointer := .take 1 })).su.pointer = .take 1 ∧ State.reset.su.pointer = .auto ∧
    State.reset.tt.rollOrder = [] ∧ (withTake .rolling).tt.rollOrder = [] ++ 1 :: [] ∧ (withTake .rolling).take? 1 = some (takeIn .rolling) ∧
    (withTake .cut).tt.rollOrder = [] ++ [1] ∧ (withTake .cut).take? 1 = some (takeIn .cut) ∧ (takeIn .cut).state ≠ .rolling ∧
    (State.reset.modSu (fun u => { u with hold := some ⟨none, 0⟩ })).su.hold = some ⟨none, 0⟩ ∧ State.reset.su.hold = none ∧
    State.reset.su.panel.display = .house ∧
    ((withOutput ⟨.running, some followSetup, none, some 30000, 0, none, none, false⟩).output 2).newestTimeline = some houseAtReset ∧
    (State.reset.output 2).newestTimeline = none ∧ ((withLane .tracking).input 1).good.isSome = true ∧
    ((withLane .tracking).input 1).settings.kind = .timecode ∧ (State.reset.input 1).good = none ∧
    ((withTake .armed).modSu (fun u => { u with pointer := .take 1 })).slateTake = some (takeIn .armed) ∧
    (withTake .rolling).slateTake = some (takeIn .rolling) ∧ (withTake .cut).slateTake = some (takeIn .cut) ∧ State.reset.slateTake = none := by
  decide +kernel

theorem witness_ContactBurstAndHoldEvents :
    State.reset.su.contact = .opened ∧ (State.reset.modSu (fun u => { u with contact := .held })).su.contact ≠ .opened ∧
    (tickAt 1440 (State.reset.modSu (fun u => { u with contact := .timing 0 }))).debounceDue = true ∧
    (tickAt 1439 (State.reset.modSu (fun u => { u with contact := .timing 0 }))).debounceDue = false ∧
    (((0 : Nat) : Int) - (143999 : Nat)).natAbs < 144000 ∧ State.reset.su.lockout = none ∧
    (newBurst factoryFlash 0).lit = true ∧ 0 < (newBurst factoryFlash 0).toBegin ∧ (newBurst factoryFlash 0).nextStep = 3600 ∧
    (newBurst factoryFlash 0).step.lit = false ∧ (newBurst ⟨1, 72, .d11⟩ 0).toBegin = 0 ∧ State.reset.burstStepDue = false ∧
    State.reset.burstEndDue = false ∧ (State.reset.modSu (fun u => { u with hold := some ⟨none, 0⟩ })).holdDue = true ∧
    State.reset.holdDue = false := by decide +kernel

/-- R135: the last pulse of a burst of 3 at D12, and a STEADY burst. -/
theorem witness_ContactBurstAndHoldEvents_burst :
    (FlashSettings.mk 3 72 .d12).duty ≠ .steady ∧ 2 < (FlashSettings.mk 3 72 .d12).count ∧ (FlashSettings.mk 3 72 .steady).duty = .steady := by
  decide

theorem witness_ReceivePath :
    (State.reset.link 0).inBreak = false ∧ (State.reset.link 0).rx.length < 32 ∧
    32 ≤ ((withLink (fun p => { p with rx := List.replicate 32 ⟨0, false, .clean⟩ })).link 0).rx.length ∧
    ((withLink (fun p => { p with inBreak := true })).link 0).inBreak = true := by decide +kernel

theorem witness_AssemblerMoves :
    ((withLink (fun p => { p with rx := [⟨60, false, .clean⟩], assembler := .length 3 })).link 0).rx = ⟨60, false, .clean⟩ :: [] ∧
    ((withLink (fun p => { p with assembler := .done (.refusal 3 .badLength) })).link 0).assembler = .done (.refusal 3 .badLength) ∧
    (Assembler.done (.refusal 3 .badLength)).isDone = true ∧ (State.reset.link 0).assembler = .idle ∧ (State.reset.link 0).rx = [] ∧
    (Assembler.length 3).midFrame = some 3 ∧ (Assembler.body 3 1 []).midFrame = some 3 ∧ (Assembler.check 3 []).midFrame = some 3 ∧
    (Assembler.length 3).isDone = false ∧ (State.reset.link 0).free = true ∧ (busyLink.link 0).free = false ∧
    (RxChar.mk 0 true .framing).tag ≠ .clean ∧ Assembler.idle.midFrame = none := by decide +kernel

theorem witness_TransmitPath :
    (busyLink.link 0).feeder = .free ∧ (busyLink.link 0).response = some ⟨frameChars 0x84#8 [], 0, none⟩ ∧
    (frameChars 0x84#8 []).drop 0 = ⟨0x84, true⟩ :: ⟨0, false⟩ :: ⟨0x7C, false⟩ :: [] ∧ (busyLink.link 0).tx.length < 32 ∧
    32 ≤ (List.replicate 32 (TxChar.mk 0 false)).length ∧ (State.reset.link 0).response = none ∧ (State.reset.link 0).noticeReady = false ∧
    ((withLink (fun p => { p with feeder := .notice false (queuedAt 0).frame, queue := [queuedAt 0], release := true })).link 0).feeder =
      .notice false (⟨0xFE, true⟩ :: (queuedAt 0).frame.tail) ∧
    ((withLink (fun p => { p with queue := [queuedAt 0], release := true })).link 0).noticeReady = true ∧
    ((withLink (fun p => { p with tx := [⟨0, false⟩], sending := true, restartAfter := some 1 })).link 0).restartAfter = some 1 ∧
    ((withLink (fun p => { p with tx := [⟨0, false⟩], sending := true })).link 0).tx = ⟨0, false⟩ :: [] ∧
    ((withLink (fun p => { p with tx := [⟨0, false⟩], sending := true })).link 0).restartAfter = none ∧
    (State.reset.link 0).sending = false := by decide +kernel

theorem witness_SetLinkDivisor :
    State.reset.takes 0 (.setLink 0 3 0) = true ∧ 3 < (4#8).toNat ∧ State.reset.takes 0 (.setLink 0 4 6) = true ∧
    (3#8).toNat = (3 : LinkId).val ∧ (3 : LinkId) ≠ 0 ∧ State.reset.takes 0 (.setLink 0 0 65535) = true ∧ (0#8).toNat = (0 : LinkId).val ∧
    691200 % max 1 (min 4095 6) = 0 := by decide +kernel

/-- Refused; nothing kept; kept with the release on; kept with the level met; kept below the level and before the timeout. -/
theorem witness_NoticeSettingsAndBatch :
    State.reset.takes 0 (.setNotices 0 31 1 1) = true ∧ 31 < (32#8).toNat ∧ (31#8).toNat ≤ 31 ∧ (1#8) ≠ 0#8 ∧
    ((withLink (fun p => { p with queue := [queuedAt 0] })).link 0).queue.filter
      (fun q => ((31#8).setWidth 5).getLsbD q.notice.body.noticeClass.bit) = queuedAt 0 :: [] ∧
    ((withLink (fun p => { p with queue := [queuedAt 0] })).link 0).release = false ∧ max 1 (min 32 (1#8).toNat) ≤ 1 ∧
    1 < max 1 (min 32 (2#8).toNat) ∧ State.reset.tick < 0 + (1#8).toNat * 720 ∧
    (tickAt 720 State.reset).tick ≤ 720 ∧ 0 + (1#8).toNat * 720 ≤ (tickAt 720 State.reset).tick ∧
    (withLink (fun p => { p with queue := [queuedAt 0] })).takes 0 (.setNotices 0 31 2 1) = true ∧
    ((withLink (fun p => { p with batchExpiry := some 0 })).link 0).batchExpiry = some 0 ∧ (State.reset.link 0).batchDue 0 = false := by
  decide +kernel

/-- BUSY by a write in flight and by the count's end; accepted at the last tick that allows it. -/
theorem witness_SaveWriteAndRestart :
    State.reset.takes 0 (.save 0) = true ∧ State.reset.store.write = none ∧
    (withStore (fun t => { t with write := some (writeTo 28800) })).takes 0 (.save 0) = true ∧
    (withStore (fun t => { t with write := some (writeTo 28800) })).store.write = some (writeTo 28800) ∧
    Config.maxTick < (tickAt 281474976681856 State.reset).tick + 28800 ∧ (tickAt 281474976681855 State.reset).tick + 28800 ≤ Config.maxTick ∧
    (writeTo 0).endTick ≤ State.reset.tick ∧ State.reset.writeDue = false ∧ State.reset.takes 0 (.restart 0) = true ∧
    State.reset.store.state ≠ .good ∧ (withStore (fun t => { t with state := .good })).store.state = .good ∧
    (withStore (fun t => { t with state := .good })).takes 0 (.restart 0) = true ∧
    (State.reset.output 0).newest = some ⟨.off, none, 0⟩ := by decide +kernel

/-- Reset with one ROLLING take meets the take table's invariant. -/
theorem tableInv_rolling : (withTake .rolling).TableInv := by
  refine ⟨by decide, ?_, by decide, by decide, by decide +kernel, by decide +kernel, ?_⟩ <;>
  · intro t h
    obtain rfl : t = takeIn .rolling := List.mem_singleton.mp h
    decide

theorem witness_DefaultsLoadsFactorySettings :
    State.reset.TableInv ∧ State.reset.takes 0 (.defaults 0) = true ∧ State.reset.tt.rollingCount = 0 ∧ 0 < (withTake .rolling).tt.rollingCount ∧
    (withTake .rolling).takes 0 (.defaults 0) = true ∧ (withTake .rolling).TableInv ∧ State.reset.tu.house.rate = .f24 ∧
    (State.reset.modTu (fun t => { t with house := { houseAtReset with rate := .f25 } })).tu.house.rate ≠ .f24 ∧
    gridAtOrAfter 30000 State.reset.tick ≤ Config.maxTick := by
  exact ⟨⟨by decide, by nofun, by decide, by decide, by decide, by decide, by nofun⟩, by decide +kernel, rfl, by decide, by decide +kernel,
    tableInv_rolling, rfl, by decide, by decide⟩

/-- Link 0 with one notice queued below its batch level of 2. -/
def queuedLink : State := withLink (fun p => { p with queue := [queuedAt 0], notices := ⟨31, 2, 10⟩, batchExpiry := some 7200 })

theorem witness_DefaultsLoadsFactorySettings_links : queuedLink.LinksInv ∧ queuedLink.takes 0 (.defaults 0) = true := by
  refine ⟨fun l => ?_, by decide +kernel⟩
  match l with
  | 0 =>
    exact ⟨by decide +kernel, by decide +kernel, by decide +kernel, ⟨by decide +kernel, by decide +kernel⟩, by decide +kernel,
      ⟨by decide +kernel, fun _ => ⟨by decide +kernel, rfl⟩, fun _ h => by cases h⟩⟩
  | 1 | 2 | 3 =>
    exact ⟨by decide +kernel, by decide +kernel, by decide +kernel, ⟨by decide +kernel, by decide +kernel⟩, by decide +kernel,
      ⟨by decide +kernel, fun _ => rfl, fun _ h => by cases h⟩⟩

/-- The change made, not made at F24, and not made where the origin would exceed the maximum; the hold kept
and ended; the release on for a queue with a notice. -/
theorem witness_DefaultsLoadsFactorySettings_change :
    (tickAt 281474976690001 (State.reset.modTu (fun t => { t with house := { houseAtReset with rate := .f25 } }))).takes 0 (.defaults 0) = true ∧
    Config.maxTick < gridAtOrAfter 30000 (tickAt 281474976690001 State.reset).tick ∧ gridAtOrAfter 30000 281474976690000 ≤ Config.maxTick ∧
    State.reset.su.panel.display = .house ∧ State.reset.su.panel.hold = 1440000 ∧
    (State.reset.modSu (fun u => { u with panel := { u.panel with hold := 1440001 } })).su.panel.hold ≠ 1440000 ∧
    ((after (.defaults 0) queuedLink).link 0).release = true := by decide +kernel

theorem witness_StepKeepsClockAndDepths : (tickAt 5 State.reset).ClockInv ∧ (tickAt 5 State.reset).DepthInv := by
  refine ⟨clockInv_of (by decide +kernel), ⟨by decide, ?_, by decide⟩⟩
  intro i
  match i with
  | 0 | 1 | 2 | 3 | 4 | 5 | 6 | 7 => decide +kernel

/-- A start-up commanded, and one that the last character of an accepted RESTART's response brings. -/
theorem witness_StepKeepsClockAndDepths_startUp :
    ({ State.reset with pending := [.startUp] } : State).pending.head? = some .startUp ∧
    ({ withLink (fun p => { p with tx := [⟨0, false⟩], sending := true, restartAfter := some 1 }) with
      pending := [.characterSent 0] } : State).pending.head? = some (.characterSent 0) ∧
    ((withLink (fun p => { p with tx := [⟨0, false⟩], sending := true, restartAfter := some 1 })).link 0).restartAfter = some 1 := by
  decide +kernel

theorem witness_StepKeepsLinksSound : busyLink.LinksInv := by
  intro l
  match l with
  | 0 | 1 | 2 | 3 =>
    exact ⟨by decide +kernel, by decide +kernel, by decide +kernel, ⟨by decide +kernel, by decide +kernel⟩, by decide +kernel,
      ⟨by decide +kernel, fun _ => rfl, fun _ h => by cases h⟩⟩

theorem witness_StepKeepsTakeTable : (withTake .rolling).TableInv ∧ (withTake .rolling).LanesApart := by
  refine ⟨tableInv_rolling, ?_⟩
  intro t ht u hu _ _ _ _ _
  obtain rfl : t = takeIn .rolling := List.mem_singleton.mp ht
  obtain rfl : u = takeIn .rolling := List.mem_singleton.mp hu
  rfl

/-- A step from one ROLLING take, and the CUT that ends it with a change held on rolling. -/
theorem witness_HouseHoldsWhileRolling :
    0 < (withTake .rolling).tt.rollingCount ∧ (∃ t, step (withTake .rolling) = .next t) ∧
    (after (.cut 0 1) ((withTake .rolling).modTu (fun t => { t with change := some ⟨laterHouse, true⟩ }))).tu.house = laterHouse ∧
    (after (.cut 0 1) ((withTake .rolling).modTu (fun t => { t with change := some ⟨laterHouse, true⟩ }))).tt.rollingCount = 0 :=
  ⟨by decide, ⟨_, rfl⟩, by decide +kernel, by decide +kernel⟩

theorem witness_StepKeepsTakesInOrder :
    (withTake .rolling).ClockInv ∧ (withTake .rolling).TableInv ∧ (withTake .rolling).TakesInOrder := by
  refine ⟨clockInv_of (by decide +kernel), tableInv_rolling, ?_⟩
  intro t ht
  obtain rfl : t = takeIn .rolling := List.mem_singleton.mp ht
  exact ⟨rfl, 500000, rfl, by decide, nofun, nofun, .nil⟩

end Sys2Proof.Tests
end

/-! PROOFS. Picture-time arithmetic (chapter 01): labels and frame numbers, timelines and the follow rule, streams and boundaries. -/

namespace Sys2Proof.Machine

open Sys2Proof

/-! ### Rate codes (R2) -/

theorem RateCode.base_pos (r : RateCode) : 0 < r.base := by cases r <;> decide

theorem RateCode.period_pos (r : RateCode) : 0 < r.period := by cases r <;> decide

theorem RateCode.dropped_lt_base (r : RateCode) : r.dropped < r.base := by cases r <;> decide

/-- R2, R8: the two rate codes with a drop mode differ only by the factor 2. -/
theorem RateCode.base_and_dropped_of_dropAllowed {r : RateCode} (h : r.dropAllowed = true) :
    (r.base = 30 ∧ r.dropped = 2) ∨ (r.base = 60 ∧ r.dropped = 4) := by
  revert h
  cases r <;> decide

theorem framesPerDay_pos (r : RateCode) (drop : Bool) : 0 < framesPerDay r drop := by
  cases r <;> cases drop <;> decide

/-! ### Valid labels (R6) -/

theorem dropFits_iff (r : RateCode) (drop : Bool) : dropFits r drop = true ↔ (drop = true → r.dropAllowed = true) := by
  cases drop <;> simp [dropFits]

theorem dropSkips_eq_false_iff (r : RateCode) (l : Label) :
    dropSkips r l = false ↔ (l.ss = 0 → l.mm % 10 ≠ 0 → r.dropped ≤ l.ff) := by
  simp [dropSkips]

theorem labelValid_iff (r : RateCode) (drop : Bool) (l : Label) :
    labelValid r drop l = true ↔
      l.hh ≤ 23 ∧ l.mm ≤ 59 ∧ l.ss ≤ 59 ∧ l.ff < r.base ∧ (drop = true → r.dropAllowed = true ∧ dropSkips r l = false) := by
  cases drop <;> simp [labelValid, and_assoc]

/-! ### Non-drop counts (R7, R9) -/

theorem nonDropCount_eq (r : RateCode) (l : Label) :
    nonDropCount r l = (60 * l.hh + l.mm) * (60 * r.base) + (l.ss * r.base + l.ff) := by
  unfold nonDropCount
  ring

theorem splitFrames_nonDropCount {r : RateCode} {l : Label} (hmm : l.mm ≤ 59) (hss : l.ss ≤ 59) (hff : l.ff < r.base) :
    splitFrames r.base (nonDropCount r l) = l := by
  have hdiv : nonDropCount r l / r.base = (l.hh * 60 + l.mm) * 60 + l.ss := by
    rw [nonDropCount, Nat.mul_comm, Nat.mul_add_div r.base_pos, Nat.div_eq_of_lt hff, Nat.add_zero]
  have hmod : nonDropCount r l % r.base = l.ff := by
    rw [nonDropCount, Nat.mul_comm, Nat.mul_add_mod, Nat.mod_eq_of_lt hff]
  obtain ⟨hh, mm, ss, ff⟩ := l
  simp only [splitFrames, hdiv, hmod, Label.mk.injEq, and_true] at *
  omega

theorem nonDropCount_splitFrames (r : RateCode) (n : Nat) : nonDropCount r (splitFrames r.base n) = n := by
  have hsec : (n / r.base / 60 / 60 * 60 + n / r.base / 60 % 60) * 60 + n / r.base % 60 = n / r.base := by omega
  rw [nonDropCount, splitFrames, hsec, Nat.div_add_mod']

theorem nonDropCount_lt {r : RateCode} {l : Label} (hhh : l.hh ≤ 23) (hmm : l.mm ≤ 59) (hss : l.ss ≤ 59) (hff : l.ff < r.base) :
    nonDropCount r l < 86400 * r.base :=
  calc nonDropCount r l < ((l.hh * 60 + l.mm) * 60 + l.ss + 1) * r.base := by rw [nonDropCount, Nat.succ_mul]; omega
    _ ≤ 86400 * r.base := Nat.mul_le_mul_right _ (by omega)

/-- R9: the numbers of a split count lie in their ranges; the hour does so within a label day. -/
theorem splitFrames_inRange (r : RateCode) {n : Nat} (h : n < 86400 * r.base) :
    (splitFrames r.base n).hh ≤ 23 ∧ (splitFrames r.base n).mm ≤ 59 ∧ (splitFrames r.base n).ss ≤ 59 ∧
      (splitFrames r.base n).ff < r.base := by
  have hsec : n / r.base < 86400 := Nat.div_lt_of_lt_mul (by rwa [Nat.mul_comm])
  refine ⟨?_, ?_, ?_, Nat.mod_lt _ r.base_pos⟩ <;> simp only [splitFrames] <;> omega

/-! ### Drop-mode counts (R8, R10)

A drop-mode label is minute `m` of the day and frame `f` of that minute. Its non-drop count is `m * 60B + f`; the numbers skipped up to
it are `D * (m − m/10)`. -/

theorem frameOfMinute_lt {b ss ff : Nat} (hss : ss ≤ 59) (hff : ff < b) : ss * b + ff < 60 * b :=
  calc ss * b + ff < (ss + 1) * b := by rw [Nat.succ_mul]; omega
    _ ≤ 60 * b := Nat.mul_le_mul_right _ (by omega)

theorem minute_and_frame_unique {b m m' f f' : Nat} (hf : f < b) (hf' : f' < b) (h : m * b + f = m' * b + f') : m = m' ∧ f = f' := by
  have hb : 0 < b := Nat.zero_lt_of_lt hf
  have hm : m = m' := by
    simpa [Nat.mul_comm _ b, Nat.mul_add_div hb, Nat.div_eq_of_lt, hf, hf'] using congrArg (· / b) h
  subst hm
  exact ⟨rfl, Nat.add_left_cancel h⟩

/-- R8: the frame number of minute `m`, frame `f` in drop mode, by tens of minutes and the minute within the ten. -/
theorem dropFrameNumber_eq {r : RateCode} (hr : r.dropAllowed = true) (m f : Nat) :
    m * (60 * r.base) + f - r.dropped * (m - m / 10) =
      m / 10 * (600 * r.base - 9 * r.dropped) + m % 10 * (60 * r.base - r.dropped) + f := by
  rcases RateCode.base_and_dropped_of_dropAllowed hr with ⟨hb, hd⟩ | ⟨hb, hd⟩ <;> rw [hb, hd] <;> omega

/-- R10: the adjustment of a frame number of minute `m` adds back exactly the numbers skipped. -/
theorem dropAdjustment_eq {r : RateCode} (hr : r.dropAllowed = true) (q k f : Nat) (hk : k < 10) (hf : f < 60 * r.base)
    (hs : k ≠ 0 → r.dropped ≤ f) :
    dropAdjustment r (q * (600 * r.base - 9 * r.dropped) + k * (60 * r.base - r.dropped) + f) =
      9 * r.dropped * q + r.dropped * k := by
  have hrest : k * (60 * r.base - r.dropped) + f < 600 * r.base - 9 * r.dropped := by
    rcases RateCode.base_and_dropped_of_dropAllowed hr with ⟨hb, hd⟩ | ⟨hb, hd⟩ <;> simp only [hb, hd] at hf ⊢ <;> omega
  have hminute : (k * (60 * r.base - r.dropped) + f - r.dropped) / (60 * r.base - r.dropped) = k := by
    have hpos : 0 < 60 * r.base - r.dropped := by have := r.dropped_lt_base; omega
    rcases Nat.eq_zero_or_pos k with rfl | hk0
    · rw [Nat.zero_mul, Nat.zero_add, Nat.div_eq_of_lt (by omega)]
    · have := hs (by omega)
      rw [Nat.add_sub_assoc this, Nat.mul_comm, Nat.mul_add_div hpos, Nat.div_eq_of_lt (by omega), Nat.add_zero]
  obtain ⟨hdiv, hmod⟩ := (Nat.div_mod_unique (Nat.zero_lt_of_lt hrest)).mpr
    ⟨show _ + (600 * r.base - 9 * r.dropped) * q = q * (600 * r.base - 9 * r.dropped) + k * (60 * r.base - r.dropped) + f by ring, hrest⟩
  rw [dropAdjustment, hdiv, hmod, hminute]

/-- R10: every drop-mode frame number is that of some minute and frame that drop mode keeps. -/
theorem exists_minute_of_dropFrame {r : RateCode} (hr : r.dropAllowed = true) (n : Nat) :
    ∃ q k f, k < 10 ∧ f < 60 * r.base ∧ (k ≠ 0 → r.dropped ≤ f) ∧
      n = q * (600 * r.base - 9 * r.dropped) + k * (60 * r.base - r.dropped) + f := by
  let q := n / (600 * r.base - 9 * r.dropped)
  let k := (n % (600 * r.base - 9 * r.dropped) - r.dropped) / (60 * r.base - r.dropped)
  refine ⟨q, k, n - q * (600 * r.base - 9 * r.dropped) - k * (60 * r.base - r.dropped), ?_⟩
  simp only [q, k]
  rcases RateCode.base_and_dropped_of_dropAllowed hr with ⟨hb, hd⟩ | ⟨hb, hd⟩ <;> rw [hb, hd] <;> omega

/-- A label whose frame lies within its second is skipped exactly where its minute drops and its frame of the minute is below `D`. -/
theorem dropSkips_eq_false_iff_frameOfMinute {r : RateCode} {l : Label} :
    dropSkips r l = false ↔ ((60 * l.hh + l.mm) % 10 ≠ 0 → r.dropped ≤ l.ss * r.base + l.ff) := by
  have hten : (60 * l.hh + l.mm) % 10 = l.mm % 10 := by omega
  rw [dropSkips_eq_false_iff, hten]
  rcases Nat.eq_zero_or_pos l.ss with h0 | hpos
  · simp [h0]
  · have hle : r.dropped ≤ l.ss * r.base + l.ff :=
      calc r.dropped ≤ 1 * r.base := by have := r.dropped_lt_base; omega
        _ ≤ l.ss * r.base := Nat.mul_le_mul_right _ hpos
        _ ≤ l.ss * r.base + l.ff := Nat.le_add_right _ _
    simp [hle, Nat.pos_iff_ne_zero.mp hpos]

/-! ### Frame numbers and labels (R7 to R10) -/

@[simp] theorem frameNumber_nonDrop (r : RateCode) (l : Label) : frameNumber r false l = nonDropCount r l := rfl

@[simp] theorem labelOfFrame_nonDrop (r : RateCode) (n : Nat) : labelOfFrame r false n = splitFrames r.base n := rfl

@[simp] theorem labelOfFrame_drop (r : RateCode) (n : Nat) :
    labelOfFrame r true n = splitFrames r.base (n + dropAdjustment r n) := rfl

theorem frameNumber_drop {r : RateCode} (hr : r.dropAllowed = true) (l : Label) :
    frameNumber r true l =
      (60 * l.hh + l.mm) / 10 * (600 * r.base - 9 * r.dropped) + (60 * l.hh + l.mm) % 10 * (60 * r.base - r.dropped)
        + (l.ss * r.base + l.ff) := by
  rw [← dropFrameNumber_eq hr, ← nonDropCount_eq]
  rfl

/-- R8, R10: on a label that drop mode keeps, the adjustment undoes the subtraction. -/
theorem frameNumber_add_dropAdjustment {r : RateCode} (hr : r.dropAllowed = true) {l : Label} (hss : l.ss ≤ 59) (hff : l.ff < r.base)
    (hs : dropSkips r l = false) :
    frameNumber r true l + dropAdjustment r (frameNumber r true l) = nonDropCount r l := by
  have hf := frameOfMinute_lt hss hff
  rw [frameNumber_drop hr, dropAdjustment_eq hr _ _ _ (Nat.mod_lt _ (by decide)) hf (dropSkips_eq_false_iff_frameOfMinute.mp hs),
    nonDropCount_eq]
  rcases RateCode.base_and_dropped_of_dropAllowed hr with ⟨hb, hd⟩ | ⟨hb, hd⟩ <;> rw [hb, hd] <;> omega

theorem frameNumber_lt {r : RateCode} {drop : Bool} {l : Label} (h : labelValid r drop l = true) :
    frameNumber r drop l < framesPerDay r drop := by
  obtain ⟨hhh, hmm, hss, hff, hdrop⟩ := (labelValid_iff r drop l).mp h
  cases drop with
  | false => exact nonDropCount_lt hhh hmm hss hff
  | true =>
    obtain ⟨hr, -⟩ := hdrop rfl
    rw [frameNumber_drop hr, framesPerDay, if_pos rfl]
    rcases RateCode.base_and_dropped_of_dropAllowed hr with ⟨hb, hd⟩ | ⟨hb, hd⟩ <;> rw [hb] at hff ⊢ <;> rw [hd] <;> omega

theorem labelOfFrame_frameNumber {r : RateCode} {drop : Bool} {l : Label} (h : labelValid r drop l = true) :
    labelOfFrame r drop (frameNumber r drop l) = l := by
  obtain ⟨-, hmm, hss, hff, hdrop⟩ := (labelValid_iff r drop l).mp h
  cases drop with
  | false => exact splitFrames_nonDropCount hmm hss hff
  | true =>
    obtain ⟨hr, hs⟩ := hdrop rfl
    rw [labelOfFrame_drop, frameNumber_add_dropAdjustment hr hss hff hs, splitFrames_nonDropCount hmm hss hff]

/-- R10: the label of a drop-mode frame number is kept by drop mode and has that frame number. -/
theorem dropSkips_and_frameNumber_labelOfFrame {r : RateCode} (hr : r.dropAllowed = true) {n : Nat} (hn : n < framesPerDay r true) :
    n + dropAdjustment r n < 86400 * r.base ∧ dropSkips r (labelOfFrame r true n) = false ∧
      frameNumber r true (labelOfFrame r true n) = n := by
  obtain ⟨q, k, f, hk, hf, hs, heq⟩ := exists_minute_of_dropFrame hr n
  have hadj : n + dropAdjustment r n = (10 * q + k) * (60 * r.base) + f := by
    rw [heq, dropAdjustment_eq hr q k f hk hf hs]
    rcases RateCode.base_and_dropped_of_dropAllowed hr with ⟨hb, hd⟩ | ⟨hb, hd⟩ <;> rw [hb, hd] <;> omega
  have hq : q < 144 := by
    rw [framesPerDay, if_pos rfl, heq] at hn
    rcases RateCode.base_and_dropped_of_dropAllowed hr with ⟨hb, hd⟩ | ⟨hb, hd⟩ <;> simp only [hb, hd] at hn <;> omega
  have hday : n + dropAdjustment r n < 86400 * r.base :=
    calc n + dropAdjustment r n < (10 * q + k + 1) * (60 * r.base) := by rw [hadj, Nat.succ_mul (10 * q + k)]; omega
      _ ≤ 1440 * (60 * r.base) := Nat.mul_le_mul_right _ (by omega)
      _ = 86400 * r.base := by ring
  have hcount := nonDropCount_splitFrames r (n + dropAdjustment r n)
  obtain ⟨-, -, hss, hff⟩ := splitFrames_inRange r hday
  rw [labelOfFrame_drop, dropSkips_eq_false_iff_frameOfMinute, frameNumber_drop hr]
  generalize splitFrames r.base (n + dropAdjustment r n) = l at *
  rw [nonDropCount_eq, hadj] at hcount
  obtain ⟨hm, hmf⟩ := minute_and_frame_unique (frameOfMinute_lt hss hff) hf hcount
  rw [hm, hmf]
  refine ⟨hday, fun h => hs (by omega), ?_⟩
  rw [heq, show (10 * q + k) / 10 = q by omega, show (10 * q + k) % 10 = k by omega]

theorem labelValid_labelOfFrame {r : RateCode} {drop : Bool} {n : Nat} (hfit : dropFits r drop = true) (hn : n < framesPerDay r drop) :
    labelValid r drop (labelOfFrame r drop n) = true := by
  rw [labelValid_iff]
  cases drop with
  | false =>
    obtain ⟨hhh, hmm, hss, hff⟩ := splitFrames_inRange r hn
    exact ⟨hhh, hmm, hss, hff, nofun⟩
  | true =>
    have hr := (dropFits_iff r true).mp hfit rfl
    obtain ⟨hday, hs, -⟩ := dropSkips_and_frameNumber_labelOfFrame hr hn
    obtain ⟨hhh, hmm, hss, hff⟩ := splitFrames_inRange r hday
    exact ⟨hhh, hmm, hss, hff, fun _ => ⟨hr, hs⟩⟩

theorem frameNumber_labelOfFrame {r : RateCode} {drop : Bool} {n : Nat} (hfit : dropFits r drop = true) (hn : n < framesPerDay r drop) :
    frameNumber r drop (labelOfFrame r drop n) = n := by
  cases drop with
  | false => exact nonDropCount_splitFrames r n
  | true =>
    obtain ⟨-, -, hinv⟩ := dropSkips_and_frameNumber_labelOfFrame ((dropFits_iff r true).mp hfit rfl) hn
    exact hinv

/-! ### Timelines (R11 to R13) -/

theorem Timeline.valid_iff (tl : Timeline) :
    tl.valid = true ↔ dropFits tl.rate tl.drop = true ∧ labelValid tl.rate tl.drop tl.label = true := by
  simp [Timeline.valid, dropFits]

theorem Timeline.day_pos (tl : Timeline) : 0 < tl.day := framesPerDay_pos _ _

/-- R13: whole frames from the origin frame to the frame labelled `l`, within one label day. -/
def Timeline.framesUpTo (tl : Timeline) (l : Label) : Nat :=
  (((frameNumber tl.rate tl.drop l : Int) - tl.originFrame) % (tl.day : Int)).toNat

theorem Timeline.tickOf_eq (tl : Timeline) (l : Label) : tl.tickOf l = tl.origin + tl.framesUpTo l * tl.rate.period := rfl

theorem Timeline.framesUpTo_cast (tl : Timeline) (l : Label) :
    (tl.framesUpTo l : Int) = ((frameNumber tl.rate tl.drop l : Int) - tl.originFrame) % (tl.day : Int) :=
  Int.toNat_of_nonneg (Int.emod_nonneg _ (Int.natCast_ne_zero.mpr tl.day_pos.ne'))

theorem Timeline.framesUpTo_lt_day (tl : Timeline) (l : Label) : tl.framesUpTo l < tl.day := by
  have h := Int.emod_lt_of_pos ((frameNumber tl.rate tl.drop l : Int) - tl.originFrame) (Int.natCast_pos.mpr tl.day_pos)
  rw [← tl.framesUpTo_cast l] at h
  exact Int.ofNat_lt.mp h

theorem Timeline.sub_origin_tickOf (tl : Timeline) (l : Label) :
    (tl.tickOf l : Int) - tl.origin = (tl.framesUpTo l : Int) * (tl.rate.period : Int) := by
  rw [tl.tickOf_eq]
  push_cast
  ring

theorem Timeline.subframeAt_tickOf (tl : Timeline) (l : Label) : tl.subframeAt (tl.tickOf l) = 0 := by
  rw [Timeline.subframeAt, tl.sub_origin_tickOf, Int.mul_emod_left]
  rfl

/-- R12 steps 2 and 4 at the tick of R13: the frames from the origin give back the frame number of the label. -/
theorem Timeline.frameAt_tickOf (tl : Timeline) {l : Label} (h : labelValid tl.rate tl.drop l = true) :
    tl.frameAt (tl.tickOf l) = frameNumber tl.rate tl.drop l := by
  have hframes : tl.framesTo (tl.tickOf l) = (tl.framesUpTo l : Int) := by
    rw [Timeline.framesTo, tl.sub_origin_tickOf, Int.mul_ediv_cancel _ (Int.natCast_ne_zero.mpr tl.rate.period_pos.ne')]
  have hlt : (frameNumber tl.rate tl.drop l : Int) < (tl.day : Int) := Int.ofNat_lt.mpr (frameNumber_lt h)
  rw [Timeline.frameAt, hframes, tl.framesUpTo_cast, Int.add_emod_emod, add_sub_cancel, Int.emod_eq_of_lt (Int.natCast_nonneg _) hlt,
    Int.toNat_natCast]

theorem Timeline.labelAt_tickOf (tl : Timeline) {l : Label} (h : labelValid tl.rate tl.drop l = true) : tl.labelAt (tl.tickOf l) = l := by
  rw [Timeline.labelAt, tl.frameAt_tickOf h, labelOfFrame_frameNumber h]

theorem Timeline.tickOf_le (tl : Timeline) (l : Label) : tl.tickOf l ≤ tl.origin + (tl.day - 1) * tl.rate.period := by
  have h := tl.framesUpTo_lt_day l
  rw [tl.tickOf_eq]
  exact Nat.add_le_add_left (Nat.mul_le_mul_right _ (by omega)) _

/-! ### The follow rule (R42) -/

/-- R42: the followed label keeps hour, minute and second, its frame lies within the second, and drop mode keeps it. -/
theorem followLabel_spec (house : Timeline) (r : RateCode) (drop : Bool) (hff : house.label.ff < house.rate.base) :
    (followLabel house r drop).hh = house.label.hh ∧ (followLabel house r drop).mm = house.label.mm ∧
      (followLabel house r drop).ss = house.label.ss ∧ (followLabel house r drop).ff < r.base ∧
      (drop = true → dropSkips r (followLabel house r drop) = false) := by
  have hscaled : house.label.ff * r.base / house.rate.base < r.base :=
    Nat.div_lt_of_lt_mul (Nat.mul_lt_mul_of_pos_right hff r.base_pos)
  simp only [followLabel]
  split
  · exact ⟨rfl, rfl, rfl, r.dropped_lt_base, fun _ => (dropSkips_eq_false_iff _ _).mpr fun _ _ => le_rfl⟩
  · rename_i hkeep
    exact ⟨rfl, rfl, rfl, hscaled, fun hd => by simpa [hd] using hkeep⟩

theorem follow_valid {house : Timeline} {r : RateCode} {drop : Bool} (hh : house.valid = true) (hfit : dropFits r drop = true) :
    (follow house r drop).valid = true := by
  obtain ⟨-, hlabel⟩ := (Timeline.valid_iff house).mp hh
  obtain ⟨hhh, hmm, hss, hff, -⟩ := (labelValid_iff _ _ _).mp hlabel
  obtain ⟨ehh, emm, ess, eff, ekeep⟩ := followLabel_spec house r drop hff
  refine (Timeline.valid_iff _).mpr ⟨hfit, (labelValid_iff _ _ _).mpr ?_⟩
  exact ⟨ehh ▸ hhh, emm ▸ hmm, ess ▸ hss, eff, fun hd => ⟨(dropFits_iff r drop).mp hfit hd, ekeep hd⟩⟩

theorem followLabel_self {house : Timeline} (hh : house.valid = true) : followLabel house house.rate house.drop = house.label := by
  obtain ⟨-, hlabel⟩ := (Timeline.valid_iff house).mp hh
  obtain ⟨-, -, -, -, hkeep⟩ := (labelValid_iff _ _ _).mp hlabel
  have hkept : (house.drop && dropSkips house.rate house.label) = false := by
    cases hd : house.drop with
    | false => rfl
    | true => exact (hkeep hd).2
  rw [followLabel, Nat.mul_div_cancel _ house.rate.base_pos]
  exact if_neg (by simp [hkept])

theorem follow_self {house : Timeline} (hh : house.valid = true) : follow house house.rate house.drop = house := by
  rw [follow, followLabel_self hh]

/-! ### Streams (R15, R16) -/

theorem ceilDiv_le_iff {x y k : Nat} (hy : 0 < y) : ceilDiv x y ≤ k ↔ x ≤ k * y := by
  rw [ceilDiv, ← Nat.lt_succ_iff, Nat.div_lt_iff_lt_mul hy, Nat.succ_mul]
  omega

theorem le_ceilDiv_mul (x : Nat) {y : Nat} (hy : 0 < y) : x ≤ ceilDiv x y * y := (ceilDiv_le_iff hy).mp le_rfl

theorem ceilDiv_mul_lt (x : Nat) {y : Nat} (hy : 0 < y) : ceilDiv x y * y < x + y := by
  have h : ceilDiv x y * y ≤ x + (y - 1) := Nat.div_mul_le_self _ _
  omega

/-- R15, R16: on a stream whose units last at least a tick, unit `k` holds the ticks from its start up to the start of unit `k + 1`. -/
theorem Stream.indexAt_eq {st : Stream} (hu : 0 < st.units) {k t : Nat} (hlow : st.startOf k ≤ t) (hhigh : t < st.startOf (k + 1)) :
    st.indexAt t = k := by
  simp only [Stream.startOf] at hlow hhigh
  have hle : k * st.ticks ≤ (t - st.origin) * st.units := (ceilDiv_le_iff hu).mp (by omega)
  have hlt : (t - st.origin) * st.units < (k + 1) * st.ticks := by
    by_contra hge
    have := (ceilDiv_le_iff hu).mpr (Nat.not_lt.mp hge)
    omega
  exact Nat.div_eq_of_lt_le hle hlt

theorem Stream.startOf_lt_succ {st : Stream} (hu : 0 < st.units) (hut : st.units ≤ st.ticks) (k : Nat) :
    st.startOf k < st.startOf (k + 1) := by
  have hk := ceilDiv_mul_lt (k * st.ticks) hu
  have hk1 := le_ceilDiv_mul ((k + 1) * st.ticks) hu
  have hlt : ceilDiv (k * st.ticks) st.units * st.units < ceilDiv ((k + 1) * st.ticks) st.units * st.units := by
    have hsucc := Nat.add_one_mul k st.ticks
    omega
  exact Nat.add_lt_add_left (Nat.lt_of_mul_lt_mul_right hlt) _

/-- R5, R17: the streams of the part. -/
def Stream.ofPart (st : Stream) : Prop :=
  (∃ sr p o, st = audioStream sr p o) ∨ (∃ r o, st = frameStream r o) ∨ (∃ b, customAllowed b = true ∧ st = pulseGrid (.custom b))

/-- R5: a unit of every stream of the part lasts at least a tick. -/
theorem Stream.ofPart.units_le_ticks {st : Stream} (h : st.ofPart) : 0 < st.units ∧ st.units ≤ st.ticks := by
  rcases h with ⟨sr, p, o, rfl⟩ | ⟨r, o, rfl⟩ | ⟨b, hb, rfl⟩
  · cases p <;> cases sr <;> simp [audioStream, SampleRate.hertz]
  · cases r <;> simp [frameStream, RateCode.pulled, RateCode.base]
  · simp only [customAllowed, Bool.and_eq_true, decide_eq_true_eq] at hb
    simp only [pulseGrid]
    omega

/-! ### Boundaries (R45, R84, R93) -/

theorem gridAtOrAfter_spec {p : Nat} (t : Nat) (hp : 0 < p) :
    p ∣ gridAtOrAfter p t ∧ t ≤ gridAtOrAfter p t ∧ gridAtOrAfter p t < t + p := by
  rw [gridAtOrAfter, Nat.mul_comm]
  exact ⟨Nat.dvd_mul_left _ _, le_ceilDiv_mul t hp, ceilDiv_mul_lt t hp⟩

theorem boundaryAtOrAfter_spec (o : Nat) {p : Nat} (c : Nat) (hp : 0 < p) :
    (p : Int) ∣ (boundaryAtOrAfter o p c : Int) - o ∧ c ≤ boundaryAtOrAfter o p c ∧ boundaryAtOrAfter o p c < c + p := by
  have hnonneg := Int.emod_nonneg ((o : Int) - c) (Int.natCast_ne_zero.mpr hp.ne')
  have hlt := Int.emod_lt_of_pos ((o : Int) - c) (Int.natCast_pos.mpr hp)
  have hcast : (boundaryAtOrAfter o p c : Int) = c + ((o : Int) - c) % p := by
    rw [boundaryAtOrAfter, Nat.cast_add, Int.toNat_of_nonneg hnonneg]
  refine ⟨?_, by omega, by omega⟩
  rw [hcast]
  have hdvd := Int.dvd_self_sub_emod (m := (p : Int)) (x := (o : Int) - c)
  have hneg : (c : Int) + ((o : Int) - c) % p - o = -((o : Int) - c - ((o : Int) - c) % p) := by ring
  rw [hneg]
  exact (Int.dvd_neg).mpr hdvd

/-! ### Settled -/

/-- Settles O10: both directions of R7 to R10, in and out of drop mode. -/
theorem labelsAndFrameNumbersInvert : Obligations.LabelsAndFrameNumbersInvert :=
  ⟨fun _ _ _ h => ⟨frameNumber_lt h, labelOfFrame_frameNumber h⟩,
    fun _ _ _ hfit hn => ⟨labelValid_labelOfFrame hfit hn, frameNumber_labelOfFrame hfit hn⟩⟩

/-- Settles O11: the frames from the origin up to a label invert R12, and the follow rule keeps labels valid. -/
theorem timelinesLabelAndFollow : Obligations.TimelinesLabelAndFollow := by
  refine ⟨fun tl l _ hl => ⟨tl.labelAt_tickOf hl, tl.subframeAt_tickOf l, Nat.le_add_right _ _, tl.tickOf_le l⟩, ?_⟩
  rintro house r drop hh hfit
  refine ⟨follow_valid hh hfit, rfl, ?_⟩
  rintro rfl rfl
  exact follow_self hh

/-- Settles O12: every stream's units last at least a tick, and a ceiling is the least whole number at or above its quotient. -/
theorem unitStartsAndBoundaries : Obligations.UnitStartsAndBoundaries := by
  refine ⟨?_, fun p t hp => gridAtOrAfter_spec t hp, fun o p c hp => boundaryAtOrAfter_spec o c hp⟩
  intro st (hst : st.ofPart) k
  obtain ⟨hu, hut⟩ := hst.units_le_ticks
  exact ⟨Stream.indexAt_eq hu le_rfl (Stream.startOf_lt_succ hu hut k), fun t => Stream.indexAt_eq hu⟩

end Sys2Proof.Machine

/-! PROOFS. The reading requests: what taking one leaves (R158), what each replies, the lengths of their bodies (11.8, R184), and the
sources and directions of CONVERT (R18 to R22). -/

namespace Sys2Proof.Machine

open Sys2Proof

/-! ### Taking a request that reads (R158) -/

/-- R155 checks 2 and 3: a frame stands for its own request, or is refused. -/
theorem judgedFrame_cases (kind : Byte) (body : List Byte) :
    judgedFrame kind body = .request kind body ∨ ∃ code, judgedFrame kind body = .refusal kind code := by
  unfold judgedFrame
  split
  · exact .inr ⟨_, rfl⟩
  · split
    · exact .inl rfl
    · exact .inr ⟨_, rfl⟩

/-- A request whose frame the table does not allow, taken: no block acts and the refusal is the answer. -/
theorem takeRequest_refused {l : LinkId} {c : Instr} {act : State → State × Reply} {s : State} {k : Byte} {code : RefusalCode}
    (h : s.takes l c = true) (hj : judgedFrame (requestFrame c).1 (requestFrame c).2 = .refusal k code) :
    takeRequest l c act s = s.answered l (requestFrame c).1 (.no code) := by
  rw [← State.leaveDone_answer]
  simp only [State.takes] at h
  simp [takeRequest, h, hj]

/-- R158: a well-formed request whose block changes nothing, taken: the block's reply is the answer. -/
theorem takeRequest_reads {l : LinkId} {c : Instr} {act : State → State × Reply} {s : State} (h : s.takes l c = true)
    (hj : judgedFrame (requestFrame c).1 (requestFrame c).2 = .request (requestFrame c).1 (requestFrame c).2)
    (hact : ∀ t, (act t).1 = t) :
    takeRequest l c act s = s.answered l (requestFrame c).1 (act (s.modLink l LinkPort.leaveDone)).2 := by
  rw [takeRequest_taken h hj, hact, State.leaveDone_answer]

/-- R158: any request whose block changes nothing, well-formed or not, leaves only an answer. -/
theorem takeRequest_onlyAnswers {l : LinkId} {c : Instr} {act : State → State × Reply} {s : State} (h : s.takes l c = true)
    (hact : ∀ t, (act t).1 = t) : ∃ r, takeRequest l c act s = s.answered l (requestFrame c).1 r := by
  rcases judgedFrame_cases (requestFrame c).1 (requestFrame c).2 with hj | ⟨code, hj⟩
  · exact ⟨_, takeRequest_reads h hj hact⟩
  · exact ⟨_, takeRequest_refused h hj⟩

/-! ### The blocks' replies (R39, R96, R121, R122, R144) -/

theorem laneOf_of_toNat_eq {b : Byte} {i : LaneId} (h : b.toNat = i.val) : laneOf b = some i := by
  unfold laneOf
  rw [dif_pos (h ▸ i.isLt)]
  exact congrArg some (Fin.ext h)

theorem laneOf_of_le {b : Byte} (h : 8 ≤ b.toNat) : laneOf b = none := dif_neg (Nat.not_lt.mpr h)

@[simp] theorem readOutputRequest_state (lane : Byte) (s : State) : (readOutputRequest lane s).1 = s := by
  unfold readOutputRequest
  split <;> rfl

@[simp] theorem readTakeRequest_state (id : BitVec 16) (s : State) : (readTakeRequest id s).1 = s := by
  unfold readTakeRequest
  split <;> rfl

@[simp] theorem listTakesRequest_state (start : Byte) (s : State) : (listTakesRequest start s).1 = s := by
  unfold listTakesRequest
  split <;> rfl

/-- R23, R39, R96, R121, R122, R144, R163: a reading request is taken by a block that changes nothing. -/
theorem exec_of_onlyReads {c : Instr} {l : LinkId} (h : c.onlyReads = true) (hl : requestLink c = some l) :
    ∃ act : State → State × Reply, (∀ t, (act t).1 = t) ∧ ∀ s, exec c s = .next (takeRequest l c act s) := by
  cases c with
  | readClock k | readReference k | readPanel k =>
    obtain rfl := Option.some.inj hl
    exact ⟨_, fun _ => rfl, fun _ => rfl⟩
  | readOutput k lane =>
    obtain rfl := Option.some.inj hl
    exact ⟨_, readOutputRequest_state lane, fun _ => rfl⟩
  | readTake k id =>
    obtain rfl := Option.some.inj hl
    exact ⟨_, readTakeRequest_state id, fun _ => rfl⟩
  | listTakes k start =>
    obtain rfl := Option.some.inj hl
    exact ⟨_, listTakesRequest_state start, fun _ => rfl⟩
  | convert k dir a value b =>
    obtain rfl := Option.some.inj hl
    exact ⟨convertRequest dir a value b, fun _ => rfl, fun _ => rfl⟩
  | _ => exact absurd h (by simp [Instr.onlyReads])

theorem exec_readReference {l : LinkId} {s : State} (h : s.takes l (.readReference l) = true) :
    exec (.readReference l) s = .next (s.answered l 0x08#8 (.ok s.referenceItems)) :=
  congrArg Host.Outcome.next (takeRequest_reads h (Laws.BodyFits.readReference l rfl rfl) fun _ => rfl)

theorem exec_readPanel {l : LinkId} {s : State} (h : s.takes l (.readPanel l) = true) :
    exec (.readPanel l) s = .next (s.answered l 0x1B#8 (.ok s.panelItems)) :=
  congrArg Host.Outcome.next (takeRequest_reads h (Laws.BodyFits.readPanel l rfl rfl) fun _ => rfl)

/-- R96: READ OUTPUT answers what its block replies on the state as it stands: the items do not read the links. -/
theorem exec_readOutput {l : LinkId} {lane : Byte} {s : State} (h : s.takes l (.readOutput l lane) = true) :
    exec (.readOutput l lane) s = .next (s.answered l 0x0E#8 (readOutputRequest lane s).2) := by
  have hlinks : (readOutputRequest lane (s.modLink l LinkPort.leaveDone)).2 = (readOutputRequest lane s).2 := by
    unfold readOutputRequest
    cases laneOf lane <;> rfl
  rw [← hlinks]
  exact congrArg Host.Outcome.next
    (takeRequest_reads h (Laws.BodyFits.readOutput l lane rfl rfl) (readOutputRequest_state lane))

/-- R121: READ TAKE likewise. -/
theorem exec_readTake {l : LinkId} {id : BitVec 16} {s : State} (h : s.takes l (.readTake l id) = true) :
    exec (.readTake l id) s = .next (s.answered l 0x16#8 (readTakeRequest id s).2) := by
  have hlinks : (readTakeRequest id (s.modLink l LinkPort.leaveDone)).2 = (readTakeRequest id s).2 := by
    have htake : (s.modLink l LinkPort.leaveDone).take? id.toNat = s.take? id.toNat := rfl
    simp only [readTakeRequest, htake]
    cases s.take? id.toNat <;> rfl
  rw [← hlinks]
  exact congrArg Host.Outcome.next (takeRequest_reads h (Laws.BodyFits.readTake l id rfl rfl) (readTakeRequest_state id))

/-- R122: LIST TAKES likewise. -/
theorem exec_listTakes {l : LinkId} {start : Byte} {s : State} (h : s.takes l (.listTakes l start) = true) :
    exec (.listTakes l start) s = .next (s.answered l 0x17#8 (listTakesRequest start s).2) := by
  have hlinks : (listTakesRequest start (s.modLink l LinkPort.leaveDone)).2 = (listTakesRequest start s).2 := by
    unfold listTakesRequest
    split <;> rfl
  rw [← hlinks]
  exact congrArg Host.Outcome.next (takeRequest_reads h (Laws.BodyFits.listTakes l start rfl rfl) (listTakesRequest_state start))

theorem readOutputRequest_of_lane {lane : Byte} {o : LaneId} (h : lane.toNat = o.val) (s : State) :
    (readOutputRequest lane s).2 = .ok (s.outputItems o) := by
  rw [readOutputRequest, laneOf_of_toNat_eq h]

theorem readOutputRequest_of_le {lane : Byte} (h : 8 ≤ lane.toNat) (s : State) : (readOutputRequest lane s).2 = .no .badValue := by
  rw [readOutputRequest, laneOf_of_le h]

theorem readTakeRequest_of_some {id : BitVec 16} {s : State} {t : Take} (h : s.take? id.toNat = some t) :
    (readTakeRequest id s).2 = .ok t.record := by
  rw [readTakeRequest, h]

theorem readTakeRequest_of_none {id : BitVec 16} {s : State} (h : s.take? id.toNat = none) :
    (readTakeRequest id s).2 = .no .noTake := by
  rw [readTakeRequest, h]

theorem listTakesRequest_of_le {start : Byte} (h : start.toNat ≤ 63) (s : State) :
    (listTakesRequest start s).2 = .ok ([char s.tt.tableCount, char ((s.tt.takes.drop start.toNat).take 12).length]
      ++ ((s.tt.takes.drop start.toNat).take 12).flatMap (fun t => bytesOf 2 t.id ++ [t.state.code])) := by
  rw [listTakesRequest, if_neg (by omega)]
  rfl

theorem listTakesRequest_of_lt {start : Byte} (h : 63 < start.toNat) (s : State) : (listTakesRequest start s).2 = .no .badValue := by
  rw [listTakesRequest, if_pos h]

/-! ### Flags (R184) -/

theorem flagsChar_two (a b : Bool) : flagsChar [a, b] = flagChar a ||| (flagChar b <<< 1) := by
  cases a <;> cases b <;> rfl

theorem flagsChar_three (a b c : Bool) : flagsChar [a, b, c] = flagChar a ||| (flagChar b <<< 1) ||| (flagChar c <<< 2) := by
  cases a <;> cases b <;> cases c <;> rfl

/-! ### Lengths of items (R184, 11.4, 11.8) -/

@[simp] theorem tickChars_length (t : Nat) : (tickChars t).length = 6 := bytesOf_length 6 t

@[simp] theorem signedChars_length (n : Nat) (v : Int) : (signedChars n v).length = n := bytesOf_length n _

@[simp] theorem offsetChars_length (v : Int) : (offsetChars v).length = 5 := bytesOf_length 5 _

@[simp] theorem labelChars_length (l : Label) (drop : Bool) : (labelChars l drop).length = 5 := rfl

@[simp] theorem textChars_length (width : Nat) (cs : List Byte) : (textChars width cs).length = width := by
  simp [textChars]

/-- R184: an item that may be absent has one length. -/
@[simp] theorem presentOr_length {α : Type} {n : Nat} {enc : α → List Byte} (h : ∀ a, (enc a).length = n) (x : Option α) :
    (presentOr n enc x).length = n + 1 := by
  cases x <;> simp [presentOr, h]

@[simp] theorem ShownLabel.chars_length (l : ShownLabel) : l.chars.length = 5 := by simp [ShownLabel.chars]

@[simp] theorem Display.chars_length (d : Display) : d.chars.length = 2 := by cases d <;> rfl

@[simp] theorem Pointer.chars_length (p : Pointer) : p.chars.length = 3 := by cases p <;> rfl

@[simp] theorem Take.text_length (t : Take) : t.text.length = 14 := by simp [Take.text]

@[simp] theorem Take.listEntry_length (t : Take) : t.listEntry.length = 3 := by simp [Take.listEntry]

@[simp] theorem OutSetup.chars_length (su : OutSetup) : su.chars.length = 18 := by simp [OutSetup.chars]

@[simp] theorem InFlight.chars_length (w : InFlight) : w.chars.length = 17 := by simp [InFlight.chars]

@[simp] theorem InSettings.chars_length (set : InSettings) : set.chars.length = 10 := by simp [InSettings.chars]

@[simp] theorem GoodArrival.chars_length (g : GoodArrival) : g.chars.length = 22 := by
  cases h : g.fields <;> simp [GoodArrival.chars, h]

@[simp] theorem LatestWord.chars_length (w : LatestWord) : w.chars.length = 7 := by simp [LatestWord.chars]

@[simp] theorem PublishedWindow.chars_length (w : PublishedWindow) : w.chars.length = 22 := by simp [PublishedWindow.chars]

@[simp] theorem Counters.chars_length (c : Counters) : c.chars.length = 10 := by simp [Counters.chars]

@[simp] theorem Participant.chars_length (p : Participant) : p.chars.length = 6 := by simp [Participant.chars]

@[simp] theorem Mark.chars_length (m : Mark) : m.chars.length = 9 := by simp [Mark.chars]

theorem State.referenceItems_length (s : State) : s.referenceItems.length = 18 := by simp [State.referenceItems]

theorem State.panelItems_length (s : State) : s.panelItems.length = 69 := by simp [State.panelItems]

theorem State.outputItems_length (s : State) (o : LaneId) : (s.outputItems o).length = 82 := by simp [State.outputItems]

theorem InLane.items_length (v : InLane) : v.items.length = 97 := by simp [InLane.items]

/-- 11.8: a take record's length. -/
theorem Take.record_length (t : Take) : t.record.length = 42 + 6 * t.participants.length + 9 * t.marks.length := by
  simp [Take.record, List.length_flatMap]
  omega

/-! ### Layouts (R39, R96, 11.5, 11.8) -/

theorem State.referenceItems_eq (s : State) :
    s.referenceItems = [s.hc.source.code, char s.hc.refRate.cls] ++ bytesOf 2 s.refPeriod ++ [s.hc.loop.code, s.hc.state.code]
        ++ signedChars 2 s.hc.trim ++ presentOr 4 (signedChars 4) s.hc.lastCorrection
        ++ [flagChar s.hc.limit ||| (flagChar s.hc.stale <<< 1), char s.hc.inTolerance]
        ++ presentOr 2 (bytesOf 2) (s.hc.lastEdge.map (fun stamp => stamp / 32 % s.refPeriod)) := by
  rw [← flagsChar_two]
  rfl

/-- R96: READ OUTPUT's items from the stream origin, the next boundary and the unit that the lane reports. -/
theorem State.outputItems_eq {s : State} {o : LaneId} {origin boundary unit : Option Nat}
    (horigin : (s.output o).newest.bind OutSetup.streamOrigin = origin) (hboundary : (s.output o).reportedBoundary s.tick = boundary)
    (hunit : (s.output o).reportedUnit = unit) :
    s.outputItems o =
      [(s.output o).state.code] ++ presentOr 18 OutSetup.chars (s.output o).inForce ++ presentOr 18 OutSetup.chars (s.output o).waiting
        ++ presentOr 6 (bytesOf 6) origin ++ presentOr 7 (bytesOf 7) boundary ++ presentOr 6 (bytesOf 6) unit
        ++ presentOr 17 (fun w : InFlight => labelChars w.fields.label w.fields.drop
          ++ [flagChar w.fields.drop ||| (flagChar w.fields.run <<< 1) ||| (flagChar w.fields.clap <<< 2)]
          ++ bytesOf 3 w.fields.user.toNat ++ [char w.fields.rateClass] ++ bytesOf 7 w.endTick) (s.output o).word
        ++ presentOr 1 (fun b => [flagChar b]) (if (s.output o).isTimecode then some (s.output o).clapped else none)
        ++ [flagChar s.hc.full] := by
  subst horigin hboundary hunit
  simp only [← flagsChar_three]
  rfl

theorem Take.record_eq (t : Take) : t.record =
    bytesOf 2 t.id ++ [t.state.code] ++ (t.scene ++ List.replicate 8 0#8).take 8 ++ (t.shot ++ List.replicate 4 0#8).take 4 ++ bytesOf 2 t.number
      ++ [char t.arming.val, flagChar t.autoRoll ||| (flagChar t.autoCut <<< 1) ||| (flagChar t.marksFull <<< 2), t.rating.code,
        t.collected.setWidth 8, flagChar t.start.isSome ||| (flagChar t.clap.isSome <<< 1) ||| (flagChar t.endTick.isSome <<< 2)]
      ++ tickChars (t.start.getD 0) ++ tickChars (t.clap.getD 0) ++ tickChars (t.endTick.getD 0)
      ++ [char t.participants.length, char t.marks.length]
      ++ t.participants.flatMap (fun p =>
        [char p.lane.val, flagChar p.rollTag.isSome ||| (flagChar p.runSeen <<< 1) ||| (flagChar p.stopped <<< 2)]
          ++ bytesOf 3 (p.rollTag.getD 0#24).toNat ++ [char p.slips])
      ++ t.marks.flatMap (fun m => tickChars m.tick ++ [m.kind.code, originChar m.origin, char m.code]) := by
  simp only [← flagsChar_three]
  rfl

theorem OutSetup.chars_off (line : Option Timeline) (ph : Nat) : (OutSetup.mk .off line ph).chars = List.replicate 18 0#8 := rfl

theorem OutSetup.chars_wordclock (line : Option Timeline) (ph : Nat) (sr : SampleRate) (q : Pull) :
    (OutSetup.mk (.wordclock sr q) line ph).chars = [3#8, sr.code, q.code] ++ List.replicate 15 0#8 := rfl

theorem OutSetup.chars_pulseCode (line : Option Timeline) (ph : Nat) (k : RateCode) (d : Bool) (pl du : Nat) :
    (OutSetup.mk (.pulse (.code k) d pl du) line ph).chars =
      [1#8, 0#8, char k.cls, flagChar d] ++ bytesOf 3 pl ++ bytesOf 3 du ++ List.replicate 8 0#8 := rfl

theorem OutSetup.chars_pulseCustom (line : Option Timeline) (ph b : Nat) (d : Bool) (pl du : Nat) :
    (OutSetup.mk (.pulse (.custom b) d pl du) line ph).chars =
      [1#8, 1#8, char b, flagChar d] ++ bytesOf 3 pl ++ bytesOf 3 du ++ List.replicate 8 0#8 := rfl

/-- R83, 11.5: a TIMECODE configuration fills its 18 characters. -/
theorem OutSetup.chars_timecode (ph : Nat) (k : RateCode) (d : Bool) (tls : OutTimeline) (u : UserSource) (tl : Timeline) :
    (OutSetup.mk (.timecode k d tls u) (some tl) ph).chars =
      [2#8, char k.cls, if tls = .follow then 0#8 else 1#8] ++ tickChars tl.origin ++ labelChars tl.label tl.drop
        ++ (match u with
          | .constant x => 0#8 :: bytesOf 3 x.toNat
          | .take => [1#8, 0#8, 0#8, 0#8]) := by
  cases tls <;> cases u <;> rfl

/-! ### Settled: reading requests -/

/-- Settles O41: a block that changes nothing leaves its reply as the answer; each reply, layout and length is its block's lemma. -/
theorem readRequestsOnlyAnswer : Obligations.ReadRequestsOnlyAnswer := by
  refine ⟨?answers, ?replies, fun s => ⟨s.referenceItems_length, s.panelItems_length, s.outputItems_length⟩, InLane.items_length, ?output,
    fun line ph => ⟨OutSetup.chars_off line ph, OutSetup.chars_wordclock line ph, OutSetup.chars_pulseCode line ph,
      OutSetup.chars_pulseCustom line ph, ?timecode⟩, Take.record_eq, Take.record_length⟩
  case answers =>
    intro c l s honly hl ht
    obtain ⟨act, hact, hexec⟩ := exec_of_onlyReads honly hl
    obtain ⟨r, hr⟩ := takeRequest_onlyAnswers ht hact
    exact ⟨r, by rw [hexec, hr]⟩
  case replies =>
    intro l s
    refine ⟨fun h => ?_, exec_readPanel, fun lane h => ⟨fun o ho => ?_, fun hle => ?_⟩, fun take h => ⟨fun t ht => ?_, fun hnone => ?_⟩,
      fun start h => ⟨fun hle => ?_, fun hlt => ?_⟩⟩
    · rw [exec_readReference h, s.referenceItems_eq]
    · rw [exec_readOutput h, readOutputRequest_of_lane ho]
    · rw [exec_readOutput h, readOutputRequest_of_le hle]
    · rw [exec_readTake h, readTakeRequest_of_some ht]
    · rw [exec_readTake h, readTakeRequest_of_none hnone]
    · rw [exec_listTakes h, listTakesRequest_of_le hle]
    · rw [exec_listTakes h, listTakesRequest_of_lt hlt]
  case output =>
    intro s o
    refine State.outputItems_eq ?_ ?_ ?_
    · rcases (s.output o).newest with _ | ⟨config, line, ph⟩
      · rfl
      · cases config <;> rfl
    · rw [OutLane.reportedBoundary, OutLane.pulseShape]
      rcases (s.output o).inForce with _ | ⟨config, line, ph⟩
      · cases (s.output o).state <;> rfl
      · cases config <;> cases (s.output o).state <;> rfl
    · rw [OutLane.reportedUnit, OutLane.sampleStream]
      rcases (s.output o).inForce with _ | ⟨config, line, ph⟩
      · cases (s.output o).state <;> rfl
      · cases config <;> cases (s.output o).state <;> rfl
  case timecode =>
    rintro k d tls u tl rfl
    exact OutSetup.chars_timecode ph k d tls u tl

/-! ### CONVERT's sources (R19, R20) -/

/-- R19: what a source serves, from what it resolves to. -/
theorem State.serves_of_resolve {s : State} {f : SourceField} {r : Resolved} (h : s.resolve f = some r) :
    s.resolveTimeline f = r.timeline ∧ s.resolveStream f = r.stream := by
  rw [State.resolveTimeline, State.resolveStream, h]
  exact ⟨rfl, rfl⟩

theorem State.serves_nothing_of_resolve_none {s : State} {f : SourceField} (h : s.resolve f = none) :
    s.resolveTimeline f = none ∧ s.resolveStream f = none := by
  rw [State.resolveTimeline, State.resolveStream, h]
  exact ⟨rfl, rfl⟩

section resolve

variable (s : State) {f : SourceField}

theorem State.resolve_house (hk : f.kind = 0#8) : s.resolve f = some (.ofTimeline s.tu.house) := by
  rw [State.resolve, hk]
  rfl

theorem State.resolve_output_of_lane {o : LaneId} (hk : f.kind = 1#8) (ho : (charAt f.rest 0).toNat = o.val) :
    s.resolve f = some (s.output o).resolved := by
  have hlane : s.resolve f = (laneOf (charAt f.rest 0)).map (fun o => (s.output o).resolved) := by
    rw [State.resolve, hk]
    rfl
  rw [hlane, laneOf_of_toNat_eq ho, Option.map_some]

theorem State.resolve_input_of_lane {i : LaneId} (hk : f.kind = 2#8) (hi : (charAt f.rest 0).toNat = i.val) :
    s.resolve f = some (s.input i).resolved := by
  have hlane : s.resolve f = (laneOf (charAt f.rest 0)).map (fun i => (s.input i).resolved) := by
    rw [State.resolve, hk]
    rfl
  rw [hlane, laneOf_of_toNat_eq hi, Option.map_some]

/-- R183: a lane above 7 is no lane, output or input. -/
theorem State.resolve_noLane (hk : f.kind = 1#8 ∨ f.kind = 2#8) (hlane : 8 ≤ (charAt f.rest 0).toNat) : s.resolve f = none := by
  rcases hk with hk | hk <;> simp [State.resolve, hk, laneOf_of_le hlane]

theorem State.resolve_explicitFrame (hk : f.kind = 3#8) : s.resolve f =
    (timelineOf (charAt f.rest 0) (labelAtPos f.rest 7) (numberAt f.rest 1 6)).map Resolved.ofTimeline := by
  rw [State.resolve, hk]
  rfl

theorem State.resolve_explicitAudio (hk : f.kind = 4#8) : s.resolve f = explicitAudio f.rest := by
  rw [State.resolve, hk]
  rfl

/-- R183: a source kind above 4 is unknown. -/
theorem State.resolve_unknown (hk : 5 ≤ f.kind.toNat) : s.resolve f = none := by
  obtain ⟨n, hn⟩ := Nat.exists_eq_add_of_le' hk
  rw [State.resolve, hn]
  rfl

end resolve

theorem explicitAudio_of_some {cs : List Byte} {sr : SampleRate} {q : Pull} (hsr : sampleRateOf (charAt cs 0) = some sr)
    (hq : pullOf (charAt cs 1) = some q) : explicitAudio cs = some (.ofStream (audioStream sr q (numberAt cs 2 6))) := by
  rw [explicitAudio, hsr, hq]

theorem explicitAudio_of_none {cs : List Byte} (h : sampleRateOf (charAt cs 0) = none ∨ pullOf (charAt cs 1) = none) :
    explicitAudio cs = none := by
  rcases h with h | h
  · simp [explicitAudio, h]
  · cases hsr : sampleRateOf (charAt cs 0) <;> simp [explicitAudio, hsr, h]

theorem OutLane.resolved_of_newest {o : OutLane} {su : OutSetup} (h : o.newest = some su) : o.resolved = su.resolved := by
  rw [OutLane.resolved, h]
  rfl

theorem OutLane.resolved_of_no_newest {o : OutLane} (h : o.newest = none) : o.resolved = .nothing := by
  rw [OutLane.resolved, h]
  rfl

theorem InLane.resolved_off {v : InLane} (h : v.settings.kind = .off) : v.resolved = .nothing := by
  rw [InLane.resolved, h]

theorem InLane.resolved_pulse {v : InLane} (h : v.settings.kind = .pulse) :
    v.resolved = .ofStream (pulseGrid (.code v.settings.rate)) := by
  rw [InLane.resolved, h]

theorem InLane.resolved_timecode {v : InLane} {tl : Timeline} (h : v.settings.kind = .timecode) (he : v.expected = some tl) :
    v.resolved = .ofTimeline tl := by
  rw [InLane.resolved, h, he]
  rfl

/-! ### CONVERT's directions (R18, R21) -/

theorem directionOf_unknown {dir : Byte} (h : 5 ≤ dir.toNat) : directionOf dir = none := by
  obtain ⟨n, hn⟩ := Nat.exists_eq_add_of_le' h
  rw [directionOf, hn]
  rfl

section convert

variable {s : State} {dir : Byte} {a : SourceField} {value : BitVec 48} {b : Option SourceField}

theorem State.convert_unknownDirection (h : 5 ≤ dir.toNat) : s.convert dir a value b = .no .badValue := by
  rw [State.convert, directionOf_unknown h]

theorem State.convert_tickToLabel {tl : Timeline} (ha : s.resolveTimeline a = some tl) :
    s.convert 0#8 a value b = convertTickToLabel tl value.toNat := by
  simp [State.convert, directionOf, ha]

theorem State.convert_labelToTick {tl : Timeline} {lab : Label} (ha : s.resolveTimeline a = some tl) (hl : valueLabel tl value = some lab) :
    s.convert 1#8 a value b = convertLabelToTick tl lab := by
  simp [State.convert, directionOf, ha, hl]

theorem State.convert_tickToIndex {st : Stream} (ha : s.resolveStream a = some st) :
    s.convert 2#8 a value b = convertTickToIndex st value.toNat := by
  simp [State.convert, directionOf, ha]

theorem State.convert_indexToTick {st : Stream} (ha : s.resolveStream a = some st) :
    s.convert 3#8 a value b = convertIndexToTick st value.toNat := by
  simp [State.convert, directionOf, ha]

theorem State.convert_labelToLabel {f : SourceField} {tla tlb : Timeline} {lab : Label} (ha : s.resolveTimeline a = some tla)
    (hl : valueLabel tla value = some lab) (hf : s.resolveTimeline f = some tlb) :
    s.convert 4#8 a value (some f) = convertLabelToLabel tla tlb lab := by
  simp [State.convert, directionOf, ha, hf, hl]

/-- R21 check 3: an invalid label is refused in both label directions, whatever source B is. -/
theorem State.convert_invalidLabel {tl : Timeline} (hd : dir = 1#8 ∨ dir = 4#8) (ha : s.resolveTimeline a = some tl)
    (hl : valueLabel tl value = none) : s.convert dir a value b = .no .badValue := by
  rcases hd with rfl | rfl
  · simp [State.convert, directionOf, ha, hl]
  · cases hb : b.bind s.resolveTimeline <;> simp [State.convert, directionOf, ha, hl, hb]

/-- R21 check 2: a source A that serves no label direction. -/
theorem State.convert_noTimeline (hd : dir = 0#8 ∨ dir = 1#8 ∨ dir = 4#8) (ha : s.resolveTimeline a = none) :
    s.convert dir a value b = .no .badValue := by
  rcases hd with rfl | rfl | rfl <;> simp [State.convert, directionOf, ha]

/-- R21 check 2: a source A that serves no index direction. -/
theorem State.convert_noStream (hd : dir = 2#8 ∨ dir = 3#8) (ha : s.resolveStream a = none) :
    s.convert dir a value b = .no .badValue := by
  rcases hd with rfl | rfl <;> simp [State.convert, directionOf, ha]

/-- R22: label to label without a source B that serves it. -/
theorem State.convert_noSourceB (hb : b.bind s.resolveTimeline = none) : s.convert 4#8 a value b = .no .badValue := by
  cases ha : s.resolveTimeline a <;> simp [State.convert, directionOf, ha, hb]

end convert

/-- R23: CONVERT answers its reply on the state as it stands: the sources do not read the links. -/
theorem exec_convert {l : LinkId} {dir : Byte} {a : SourceField} {value : BitVec 48} {b : Option SourceField} {s : State}
    (ha : a.rest.length = 12) (hb : ∀ f, b = some f → f.rest.length = 12) (h : s.takes l (.convert l dir a value b) = true) :
    exec (.convert l dir a value b) s = .next (s.answered l 0x1E#8 (s.convert dir a value b)) := by
  have hw : (Instr.convert l dir a value b).wellFormed = true := by
    cases b <;> simp_all [Instr.wellFormed, SourceField.wellFormed]
  exact congrArg Host.Outcome.next
    (takeRequest_reads (act := convertRequest dir a value b) h (Laws.BodyFits.convert l dir a value b hw rfl) fun _ => rfl)

/-! ### Settled: CONVERT -/

/-- Settles O42: each direction, refusal and source by its own equation of `State.convert` and `State.resolve`. -/
theorem convertOnEverySource : Obligations.ConvertOnEverySource := by
  intro l dir a value b s ha hb ht
  have hanswer {r : Reply} (hr : s.convert dir a value b = r) :
      exec (.convert l dir a value b) s = .next (s.answered l 0x1E#8 r) := hr ▸ exec_convert ha hb ht
  refine ⟨fun tl htl => ⟨?tickToLabel, fun lab hlab => ⟨?labelToTick, ?labelToLabel⟩, ?invalidLabel⟩,
    fun st hst => ⟨?tickToIndex, ?indexToTick⟩, ?refused, fun f => ⟨?house, ?output, ?input, ?frame, ?audio, ?unknown⟩⟩
  case tickToLabel =>
    rintro rfl
    exact hanswer (State.convert_tickToLabel htl)
  case labelToTick =>
    rintro rfl
    exact hanswer (State.convert_labelToTick htl hlab)
  case labelToLabel =>
    rintro f tlb rfl rfl hf
    exact hanswer (State.convert_labelToLabel htl hlab hf)
  case invalidLabel => exact fun hd hl => hanswer (State.convert_invalidLabel hd htl hl)
  case tickToIndex =>
    rintro rfl
    exact hanswer (State.convert_tickToIndex hst)
  case indexToTick =>
    rintro rfl
    exact hanswer (State.convert_indexToTick hst)
  case refused =>
    rintro (hd | ⟨hd, hn⟩ | ⟨hd, hn⟩ | ⟨rfl, hn⟩)
    · exact hanswer (State.convert_unknownDirection hd)
    · exact hanswer (State.convert_noTimeline hd hn)
    · exact hanswer (State.convert_noStream hd hn)
    · refine hanswer (State.convert_noSourceB ?_)
      rcases hn with rfl | ⟨f, rfl, hf⟩
      · rfl
      · exact hf
  case house =>
    intro hk
    have hres := s.resolve_house hk
    exact State.serves_of_resolve hres
  case output =>
    intro o hk ho
    have hres := s.resolve_output_of_lane hk ho
    refine ⟨fun hn => ?_, fun t p hn => ?_, fun rate d pl du t p hn => ?_, fun r d k u tl p hn => ?_, fun sr q t p hn => ?_⟩
    · exact State.serves_of_resolve (OutLane.resolved_of_no_newest hn ▸ hres)
    all_goals
      rw [OutLane.resolved_of_newest hn] at hres
      exact State.serves_of_resolve hres
  case input =>
    intro i hk hi
    have hres := s.resolve_input_of_lane hk hi
    refine ⟨fun h => ?_, fun h => ?_, fun tl h he => ?_⟩
    · exact State.serves_of_resolve (InLane.resolved_off h ▸ hres)
    · exact State.serves_of_resolve (InLane.resolved_pulse h ▸ hres)
    · exact State.serves_of_resolve (InLane.resolved_timecode h he ▸ hres)
  case frame =>
    intro hk
    have hres := s.resolve_explicitFrame hk
    refine ⟨fun tl htl => ?_, fun hn => ?_⟩
    · rw [htl, Option.map_some] at hres
      exact State.serves_of_resolve hres
    · rw [hn, Option.map_none] at hres
      exact State.serves_nothing_of_resolve_none hres
  case audio =>
    intro hk
    have hres := s.resolve_explicitAudio hk
    exact ⟨fun sr q hsr hq => State.serves_of_resolve (hres.trans (explicitAudio_of_some hsr hq)),
      fun hn => State.serves_nothing_of_resolve_none (hres.trans (explicitAudio_of_none hn))⟩
  case unknown =>
    rintro (hk | ⟨hk, hlane⟩)
    · exact State.serves_nothing_of_resolve_none (s.resolve_unknown hk)
    · exact State.serves_nothing_of_resolve_none (s.resolve_noLane hk hlane)

end Sys2Proof.Machine

/-! PROOFS. House Clock (chapter 02): HOUSE_FULL, SET REFERENCE, the screening of an edge, the measurement and the two expiries. -/

namespace Sys2Proof.Machine

open Sys2Proof

/-! ### Acting on a taken request (R158) -/

/-- R158: a well-formed request, taken, whose block's act on the state out of DONE is known. -/
theorem takeRequest_acts {l : LinkId} {c : Instr} {act : State → State × Reply} {s t : State} {r : Reply} (h : s.takes l c = true)
    (hj : judgedFrame (requestFrame c).1 (requestFrame c).2 = .request (requestFrame c).1 (requestFrame c).2)
    (hact : act (s.modLink l LinkPort.leaveDone) = (t.modLink l LinkPort.leaveDone, r)) :
    takeRequest l c act s = t.answered l (requestFrame c).1 r := by
  rw [takeRequest_taken h hj, hact, State.leaveDone_answer]

/-! ### HOUSE_FULL (R25) -/

theorem State.fullDue_iff (s : State) : s.fullDue = true ↔ s.hc.full = false ∧ Config.maxTick ≤ s.tick := by
  simp [State.fullDue]

theorem exec_houseFull_due {s : State} (h : s.fullDue = true) : exec .houseFull s = .next s.setFull :=
  congrArg Host.Outcome.next (if_pos h)

theorem exec_houseFull_notDue {s : State} (h : ¬ s.fullDue = true) : exec .houseFull s = .next s :=
  congrArg Host.Outcome.next (if_neg h)

/-- R88, R91: abandoning the word in flight touches that word and the clap indication only. -/
theorem OutLane.abandonWord_eq (o : OutLane) (c : Nat) :
    o.abandonWord c = { o with word := none, clapped := (o.abandonWord c).clapped } := by
  rcases o with ⟨state, inForce, waiting, nextBoundary, unitIndex, highUntil, word, clapped⟩
  cases word <;> rfl

/-- Settles O14: HOUSE_FULL acts exactly where it is due, and idling a lane abandons its word and drops its line. -/
theorem houseFullIdlesOutputs : Obligations.HouseFullIdlesOutputs := by
  intro s
  refine ⟨fun hf ht => exec_houseFull_due (s.fullDue_iff.mpr ⟨hf, ht⟩), fun h => exec_houseFull_notDue ?_, fun o c => ?_⟩
  · rw [s.fullDue_iff]
    rintro ⟨hf, ht⟩
    rcases h with h | h
    · simp [hf] at h
    · omega
  · rw [OutLane.idleAtFull, OutLane.abandonWord_eq]
    exact ⟨rfl, rfl, rfl, rfl, rfl, rfl⟩

/-! ### Reporting the reference state (R37) -/

section report

variable {s : State} {old : HouseClock}

theorem State.reportReference_same (hstate : s.hc.state = old.state) (hstale : s.hc.stale = old.stale) :
    s.reportReference old = s := if_pos ⟨hstate, hstale⟩

theorem State.reportReference_changed (h : ¬ (s.hc.state = old.state ∧ s.hc.stale = old.stale)) :
    s.reportReference old = s.post (.referenceState old.state s.hc.state s.hc.stale s.hc.trim) := if_neg h

theorem State.reportReference_leaveDone (l : LinkId) :
    (s.modLink l LinkPort.leaveDone).reportReference old = (s.reportReference old).modLink l LinkPort.leaveDone := by
  by_cases h : s.hc.state = old.state ∧ s.hc.stale = old.stale
  · rw [State.reportReference_same h.1 h.2]
    exact State.reportReference_same h.1 h.2
  · rw [State.reportReference_changed h, ← State.post_leaveDone]
    exact State.reportReference_changed h

@[simp] theorem State.reportReference_hc : (s.reportReference old).hc = s.hc := by
  unfold State.reportReference
  split <;> rfl

end report

/-! ### SET REFERENCE (R38) -/

theorem refSourceOf_unknown {b : Byte} (h : (2 ≤ b.toNat ∧ b.toNat < 0x10) ∨ 0x17 < b.toNat) : refSourceOf b = none := by
  have hlane (h16 : 0x10 ≤ b.toNat) : laneOf (b - 0x10#8) = none := laneOf_of_le (by bv_omega)
  unfold refSourceOf
  split
  · omega
  · omega
  · split
    · rw [hlane ‹_›, Option.map_none]
    · rfl

theorem rateOf_unknown {b : Byte} (h : 9 < b.toNat) : rateOf b = none := by
  obtain ⟨k, hk⟩ := Nat.exists_eq_add_of_le' h
  rw [rateOf, hk]
  rfl

theorem loopOf_unknown {b : Byte} (h : 1 < b.toNat) : loopOf b = none := by
  obtain ⟨k, hk⟩ := Nat.exists_eq_add_of_le' h
  rw [loopOf, hk]
  rfl

theorem trimFieldOf_unknown {mode : Byte} (v : BitVec 16) (h : 1 < mode.toNat) : trimFieldOf mode v = none := by
  obtain ⟨k, hk⟩ := Nat.exists_eq_add_of_le' h
  rw [trimFieldOf, hk]
  rfl

section setReference

variable {source rateClass loop trimMode : Byte} {trim : BitVec 16} {s : State}

/-- R38: a field out of its codes is refused. -/
theorem setReferenceRequest_badField
    (h : refSourceOf source = none ∨ rateOf rateClass = none ∨ loopOf loop = none ∨ trimFieldOf trimMode trim = none) :
    setReferenceRequest source rateClass loop trimMode trim s = (s, .no .badValue) := by
  unfold setReferenceRequest
  split
  · simp_all
  · rfl

/-- R38: a source lane of kind OFF is refused. -/
theorem setReferenceRequest_laneOff {src : RefSource} (hsrc : refSourceOf source = some src) (hfit : s.refSourceFits src = false) :
    setReferenceRequest source rateClass loop trimMode trim s = (s, .no .badValue) := by
  unfold setReferenceRequest
  split
  · simp_all
  · rfl

theorem setReferenceRequest_accepted {src : RefSource} {r : RateCode} {lp : LoopMode} {field : Option Int}
    (hsrc : refSourceOf source = some src) (hr : rateOf rateClass = some r) (hlp : loopOf loop = some lp)
    (hfield : trimFieldOf trimMode trim = some field) (hfit : s.refSourceFits src = true) :
    setReferenceRequest source rateClass loop trimMode trim s =
      (s.applyReference src r lp field,
        .ok ([(s.applyReference src r lp field).hc.source.code, char (s.applyReference src r lp field).hc.refRate.cls,
            (s.applyReference src r lp field).hc.loop.code] ++ signedChars 2 (s.applyReference src r lp field).hc.trim
          ++ [(s.applyReference src r lp field).hc.state.code])) := by
  simp only [setReferenceRequest, hsrc, hr, hlp, hfield, hfit, if_true]

end setReference

/-- R32, R38: the House Clock as an accepted SET REFERENCE leaves it. -/
def State.referenceSet (s : State) (src : RefSource) (r : RateCode) (lp : LoopMode) (field : Option Int) : HouseClock :=
  { s.hc with
    source := src
    refRate := r
    loop := lp
    trim := match field with
      | some v => max (-10000) (min 10000 v)
      | none => s.hc.trim
    state := if src = .off then .off else .acquire
    windowStart := none
    edgeCount := 0
    lastEdge := none
    nextExpected := if src = .off then none else some (s.tick + s.periodOf src r)
    inTolerance := 0
    stale := false
    holdoverSince := none }

section applyReference

variable (s : State) (src : RefSource) (r : RateCode) (lp : LoopMode) (field : Option Int)

/-- R38: storing the settings is the clock they give, reported against the one before. -/
theorem State.applyReference_eq :
    s.applyReference src r lp field = ({ s with hc := s.referenceSet src r lp field } : State).reportReference s.hc := by
  cases field <;> rfl

@[simp] theorem State.applyReference_hc : (s.applyReference src r lp field).hc = s.referenceSet src r lp field := by
  rw [State.applyReference_eq, State.reportReference_hc]

theorem State.applyReference_leaveDone (l : LinkId) :
    (s.modLink l LinkPort.leaveDone).applyReference src r lp field =
      (s.applyReference src r lp field).modLink l LinkPort.leaveDone := by
  rw [State.applyReference_eq, State.applyReference_eq]
  exact State.reportReference_leaveDone (s := { s with hc := s.referenceSet src r lp field }) l

end applyReference

/-- Settles O15: SET REFERENCE refuses without acting, or stores its settings and reports a changed state. -/
theorem setReferenceEntersState : Obligations.SetReferenceEntersState := by
  intro l source rateClass loop trimMode trim s ht
  have hexec {t : State} {r : Reply} (h : setReferenceRequest source rateClass loop trimMode trim (s.modLink l LinkPort.leaveDone) =
      (t.modLink l LinkPort.leaveDone, r)) :
      exec (.setReference l source rateClass loop trimMode trim) s = .next (t.answered l 0x07#8 r) :=
    congrArg Host.Outcome.next
      (takeRequest_acts ht (Laws.BodyFits.setReference l source rateClass loop trimMode trim rfl rfl) h)
  refine ⟨fun h => hexec ?refused, refSourceOf_unknown, fun src r lp field hsrc hr hlp hfield hfit => ?accepted⟩
  case refused =>
    rcases h with h | h | h | h | ⟨i, hi, hoff⟩
    · exact setReferenceRequest_badField (.inl h)
    · exact setReferenceRequest_badField (.inr (.inl (rateOf_unknown h)))
    · exact setReferenceRequest_badField (.inr (.inr (.inl (loopOf_unknown h))))
    · exact setReferenceRequest_badField (.inr (.inr (.inr (trimFieldOf_unknown trim h))))
    · exact setReferenceRequest_laneOff hi (by simp [State.refSourceFits, hoff])
  case accepted =>
    intro h
    have hreport : (if h.state = s.hc.state ∧ s.hc.stale = false then { s with hc := h }
        else { s with hc := h }.post (.referenceState s.hc.state h.state false h.trim)) = s.applyReference src r lp field := by
      rw [State.applyReference_eq]
      exact if_congr (and_congr_right' ⟨Eq.symm, Eq.symm⟩) rfl rfl
    rw [hreport]
    refine hexec ((setReferenceRequest_accepted (s := s.modLink l LinkPort.leaveDone) hsrc hr hlp hfield hfit).trans ?_)
    rw [State.applyReference_leaveDone, State.modLink_hc, State.applyReference_hc]
    rfl

/-! ### Screening an edge (R25, R29, R35) -/

section screen

variable {h : HouseClock} {period start last : Nat}

/-- R29: the first edge after a restart opens the window. -/
theorem HouseClock.screen_opens (hw : h.windowStart = none) : h.screen period = h.startWindow h.fineStamp period := by
  simp only [HouseClock.screen, hw]

/-- R29: an edge less than half a period after the last accepted one is a runt. -/
theorem HouseClock.screen_runt (hw : h.windowStart = some start) (hl : h.lastEdge = some last)
    (hg : 2 * (h.tick - last / 32) < period) : h.screen period = h := by
  simp only [HouseClock.screen, hw, hl, Config.finePerTick, hg, if_true]

/-- R29: a normal edge before the 16th is counted. -/
theorem HouseClock.screen_counts (hw : h.windowStart = some start) (hl : h.lastEdge = some last)
    (hlow : period ≤ 2 * (h.tick - last / 32)) (hhigh : 2 * (h.tick - last / 32) ≤ 3 * period) (hn : h.edgeCount + 1 < 16) :
    h.screen period =
      { h with edgeCount := h.edgeCount + 1, lastEdge := some h.fineStamp, nextExpected := some (h.tick + period) } := by
  simp only [HouseClock.screen, hw, hl, Config.finePerTick, Nat.not_lt.mpr hlow, hhigh, hn, if_true, if_false]

/-- R29, R30: the 16th normal edge measures. -/
theorem HouseClock.screen_measures (hw : h.windowStart = some start) (hl : h.lastEdge = some last)
    (hlow : period ≤ 2 * (h.tick - last / 32)) (hhigh : 2 * (h.tick - last / 32) ≤ 3 * period) (hn : h.edgeCount = 15) :
    h.screen period = HouseClock.measure
      { h with edgeCount := 16, lastEdge := some h.fineStamp, nextExpected := some (h.tick + period) }
      (correctionOf start h.fineStamp period) h.fineStamp := by
  simp only [HouseClock.screen, hw, hl, Config.finePerTick, Nat.not_lt.mpr hlow, hhigh, hn, Nat.reduceAdd, Nat.lt_irrefl, if_true,
    if_false]

/-- R29: an edge more than one and a half periods after the last accepted one restarts the window. -/
theorem HouseClock.screen_gap (hw : h.windowStart = some start) (hl : h.lastEdge = some last) (hs : h.state = .acquire ∨ h.state = .locked)
    (hg : 3 * period < 2 * (h.tick - last / 32)) :
    h.screen period =
      { h.startWindow h.fineStamp period with inTolerance := if h.state = .acquire then 0 else h.inTolerance } := by
  have hrunt : ¬ 2 * (h.tick - last / 32) < period := by omega
  rcases hs with hs | hs <;>
    simp [HouseClock.screen, HouseClock.startWindow, hw, hl, Config.finePerTick, hrunt, Nat.not_le.mpr hg, hs]

end screen

section takeEdge

variable {s : State}

theorem State.takeEdge_ignored (h : s.hc.full = true ∨ s.hc.state = .off) : s.takeEdge = s := by
  unfold State.takeEdge
  rcases h with h | h
  · rw [if_pos h]
  · split <;> simp [h]

theorem State.takeEdge_screens (hf : s.hc.full = false) (hs : s.hc.state = .acquire ∨ s.hc.state = .locked) :
    s.takeEdge = (s.modHc (fun h => h.screen s.refPeriod)).reportReference s.hc := by
  rcases hs with hs | hs <;> simp [State.takeEdge, hf, hs]

/-- R29: an edge that does not measure is not reported. -/
theorem State.takeEdge_unreported {h : HouseClock} (hf : s.hc.full = false) (hs : s.hc.state = .acquire ∨ s.hc.state = .locked)
    (hscreen : s.hc.screen s.refPeriod = h) (hstate : h.state = s.hc.state) (hstale : h.stale = s.hc.stale) :
    s.takeEdge = { s with hc := h } := by
  subst hscreen
  rw [State.takeEdge_screens hf hs]
  exact State.reportReference_same hstate hstale

/-- R35: an edge in HOLDOVER returns HC to ACQUIRE and is reported. -/
theorem State.takeEdge_holdover (hf : s.hc.full = false) (hs : s.hc.state = .holdover) :
    s.takeEdge =
      ({ s with hc := { s.hc with
          state := .acquire
          stale := false
          holdoverSince := none
          windowStart := some s.hc.fineStamp
          edgeCount := 0
          lastEdge := some s.hc.fineStamp
          nextExpected := some (s.tick + s.refPeriod)
          inTolerance := 0 } }.post (.referenceState .holdover .acquire false s.hc.trim)) := by
  rw [State.takeEdge, if_neg (by simp [hf])]
  simp only [hs]
  exact (State.reportReference_changed (by simp [hs])).trans (by rw [hs]; rfl)

theorem State.laneEdge_source {i : LaneId} (h : s.hc.source = .lane i) : s.laneEdge i = s.takeEdge := if_pos h

theorem State.laneEdge_other {i : LaneId} (h : s.hc.source ≠ .lane i) : s.laneEdge i = s := if_neg h

theorem exec_referenceEdge_source (h : s.hc.source = .refInput) : exec .referenceEdge s = .next s.takeEdge :=
  congrArg Host.Outcome.next (if_pos h)

theorem exec_referenceEdge_other (h : s.hc.source ≠ .refInput) : exec .referenceEdge s = .next s :=
  congrArg Host.Outcome.next (if_neg h)

theorem State.refPeriod_refInput (h : s.hc.source = .refInput) : s.refPeriod = s.hc.refRate.period := by
  rw [State.refPeriod, h]
  rfl

theorem State.refPeriod_lane {i : LaneId} (h : s.hc.source = .lane i) : s.refPeriod = (s.input i).settings.rate.period := by
  rw [State.refPeriod, h]
  rfl

end takeEdge

/-- Settles O16: `takeEdge` screens an edge by the clock's state and the edge's distance; the source decides who reaches it. -/
theorem referenceEdgeIsScreened : Obligations.ReferenceEdgeIsScreened := by
  intro s stamp period screened
  have hscreened : screened s.takeEdge := by
    refine ⟨State.takeEdge_ignored, State.takeEdge_holdover, fun hf hs => ⟨fun hw => ?opens, fun start last hw hl =>
      ⟨fun hg => ?runt, fun hlow hhigh hn => ?counts, fun hg => ?gap⟩⟩⟩
    case opens => exact State.takeEdge_unreported hf hs (HouseClock.screen_opens hw) rfl rfl
    case runt => exact State.takeEdge_unreported hf hs (HouseClock.screen_runt hw hl hg) rfl rfl
    case counts => exact State.takeEdge_unreported hf hs (HouseClock.screen_counts hw hl hlow hhigh hn) rfl rfl
    case gap => exact State.takeEdge_unreported hf hs (HouseClock.screen_gap hw hl hs hg) rfl rfl
  exact ⟨exec_referenceEdge_other, fun h => ⟨State.refPeriod_refInput h, _, exec_referenceEdge_source h, hscreened⟩,
    fun i => State.laneEdge_other, fun i h => ⟨State.refPeriod_lane h, State.laneEdge_source h ▸ hscreened⟩⟩

/-! ### The measurement (R30, R31, R33) -/

/-- R30: the rounding is to the nearest whole number, an exact half going away from zero. -/
theorem roundHalfAway_nearest (n : Int) {d : Nat} (hd : 0 < d) :
    2 * (n - roundHalfAway n d * d).natAbs ≤ d ∧
    (2 * (n - roundHalfAway n d * d).natAbs = d → n.natAbs < (roundHalfAway n d).natAbs * d) := by
  obtain ⟨q, hq⟩ : ∃ q, q = (2 * n.natAbs + d) / (2 * d) := ⟨_, rfl⟩
  have hround : roundHalfAway n d = if n < 0 then -(q : Int) else q := by rw [hq]; rfl
  have hlow : 2 * (q * d) ≤ 2 * n.natAbs + d := by
    have := Nat.div_mul_le_self (2 * n.natAbs + d) (2 * d)
    rw [← hq] at this
    linarith
  have hhigh : 2 * n.natAbs + d < 2 * (q * d) + 2 * d := by
    have := Nat.lt_div_mul_add (a := 2 * n.natAbs + d) (b := 2 * d) (by omega)
    rw [← hq] at this
    linarith
  have hcast : (q : Int) * d = (q * d : Nat) := (Nat.cast_mul q d).symm
  rw [hround]
  split
  · rw [neg_mul, hcast, Int.natAbs_neg, Int.natAbs_natCast]
    omega
  · rw [hcast, Int.natAbs_natCast]
    omega

theorem State.refPeriod_pos {s : State} (h : s.hc.source ≠ .off) : 0 < s.refPeriod := by
  unfold State.refPeriod State.periodOf
  split
  · exact absurd ‹_› h
  · exact RateCode.period_pos _
  · exact RateCode.period_pos _

theorem clampTrim_eq (v : Int) : clampTrim v = max (-10000) (min 10000 v) := rfl

/-- R31: LIMIT is set exactly where the step leaves the trim's range. -/
theorem limitAfter_eq (loop : LoopMode) (trim c : Int) :
    limitAfter loop trim c = (loop == .track && decide (10000 < (trim - Int.tdiv c 4).natAbs)) := by
  cases loop with
  | track =>
    refine decide_eq_decide.mpr ?_
    rw [trackedTrim, truncDiv, clampTrim_eq, Nat.cast_ofNat]
    omega
  | fixed => rfl

theorem trackedTrim_eq (loop : LoopMode) (trim c : Int) :
    (match loop with
      | .track => trackedTrim trim c
      | .fixed => trim) = if loop = .track then max (-10000) (min 10000 (trim - Int.tdiv c 4)) else trim := by
  cases loop <;> rfl

/-- R33: the judgement of a correction in ACQUIRE or LOCKED. -/
theorem HouseClock.judge_eq {h : HouseClock} (c : Int) (hs : h.state = .acquire ∨ h.state = .locked) :
    h.judge c =
      { h with
        inTolerance :=
          if h.state = .acquire then (if c.natAbs ≤ 5 then h.inTolerance + 1 else 0)
          else (if c.natAbs ≤ 100 then h.inTolerance else 0)
        state :=
          if h.state = .acquire then (if c.natAbs ≤ 5 ∧ 4 ≤ h.inTolerance + 1 then .locked else .acquire)
          else (if c.natAbs ≤ 100 then .locked else .acquire) } := by
  rcases hs with hs | hs
  · by_cases hc : c.natAbs ≤ 5 <;> simp [HouseClock.judge, hs, hc]
  · by_cases hc : c.natAbs ≤ 100 <;> simp [HouseClock.judge, hs, hc]
    rw [← hs]

/-- R30, R31, R33: the measurement of correction `c` at stamp `stamp` in ACQUIRE or LOCKED. -/
theorem HouseClock.measure_eq {h : HouseClock} (c : Int) (stamp : Nat) (hs : h.state = .acquire ∨ h.state = .locked) :
    h.measure c stamp =
      { h with
        lastCorrection := some c
        trim := if h.loop = .track then max (-10000) (min 10000 (h.trim - Int.tdiv c 4)) else h.trim
        limit := h.loop == .track && decide (10000 < (h.trim - Int.tdiv c 4).natAbs)
        windowStart := some stamp
        edgeCount := 0
        inTolerance :=
          if h.state = .acquire then (if c.natAbs ≤ 5 then h.inTolerance + 1 else 0)
          else (if c.natAbs ≤ 100 then h.inTolerance else 0)
        state :=
          if h.state = .acquire then (if c.natAbs ≤ 5 ∧ 4 ≤ h.inTolerance + 1 then .locked else .acquire)
          else (if c.natAbs ≤ 100 then .locked else .acquire) } := by
  rw [← limitAfter_eq, ← trackedTrim_eq]
  exact HouseClock.judge_eq c hs

/-- Settles O17: the 16th normal edge measures, by the rounding's two bounds and the equations of the measurement. -/
theorem measurementDisciplinesTrim : Obligations.MeasurementDisciplinesTrim := by
  intro s start last hsource hf hs hw hl hn hlow hhigh stamp c step measured
  have hmeasured : s.takeEdge = measured := by
    have hscreen := (HouseClock.screen_measures hw hl hlow hhigh hn).trans (HouseClock.measure_eq _ _ hs)
    rw [State.takeEdge_screens hf hs, State.modHc, hscreen]
    rfl
  have hspan : 0 < 512 * s.refPeriod := Nat.mul_pos (by decide) (State.refPeriod_pos hsource)
  obtain ⟨hnear, hhalf⟩ := roundHalfAway_nearest (((stamp : Int) - start - 512 * s.refPeriod) * 100000000) hspan
  refine ⟨hnear, fun h => ?_, fun h => hmeasured ▸ exec_referenceEdge_source h, fun i h => (State.laneEdge_source h).trans hmeasured⟩
  have hlt := hhalf h
  rwa [Int.natAbs_mul] at hlt

/-! ### The expiries (R34, R36) -/

section expiries

variable {s : State}

/-- R34: HOLDOVER entered at this tick, with its notice. -/
theorem State.enterHoldover_eq (h : s.hc.state = .acquire ∨ s.hc.state = .locked) :
    s.enterHoldover =
      { s with hc := { s.hc with
        state := .holdover
        holdoverSince := some s.tick
        windowStart := none
        edgeCount := 0
        lastEdge := none
        nextExpected := none
        inTolerance := 0 } }.post (.referenceState s.hc.state .holdover s.hc.stale s.hc.trim) := by
  have hne : RefState.holdover ≠ s.hc.state := by rcases h with h | h <;> simp [h]
  have henter : s.enterHoldover =
      (s.modHc (fun h => { h.forget with state := .holdover, holdoverSince := some h.tick })).reportReference s.hc := by
    rcases h with h | h <;> simp only [State.enterHoldover, h]
  rw [henter]
  exact State.reportReference_changed (fun hsame => hne hsame.1)

theorem State.enterHoldover_ignored (h : s.hc.state = .off ∨ s.hc.state = .holdover) : s.enterHoldover = s := by
  rcases h with h | h <;> simp only [State.enterHoldover, h]

theorem State.lossDue_iff :
    s.lossDue = true ↔ s.hc.full = false ∧ (s.hc.state = .acquire ∨ s.hc.state = .locked) ∧
      ∃ e, s.hc.nextExpected = some e ∧ e + 2 * s.refPeriod ≤ s.tick := by
  cases h : s.hc.nextExpected <;> simp [State.lossDue, h, and_assoc]

theorem State.staleDue_iff :
    s.staleDue = true ↔ s.hc.full = false ∧ s.hc.state = .holdover ∧ s.hc.stale = false ∧
      ∃ h, s.hc.holdoverSince = some h ∧ h + 432000000 ≤ s.tick := by
  cases h : s.hc.holdoverSince <;> simp [State.staleDue, h, and_assoc]

theorem exec_lossExpiry_due (h : s.lossDue = true) : exec .lossExpiry s = .next s.enterHoldover :=
  congrArg Host.Outcome.next (if_pos h)

theorem exec_lossExpiry_notDue (h : s.lossDue = false) : exec .lossExpiry s = .next s :=
  congrArg Host.Outcome.next (if_neg (by simp [h]))

theorem exec_staleExpiry_due (h : s.staleDue = true) :
    exec .staleExpiry s = .next ((s.modHc (fun h => { h with stale := true })).reportReference s.hc) :=
  congrArg Host.Outcome.next (if_pos h)

theorem exec_staleExpiry_notDue (h : s.staleDue = false) : exec .staleExpiry s = .next s :=
  congrArg Host.Outcome.next (if_neg (by simp [h]))

theorem State.laneSilent_source {i : LaneId} (h : s.hc.source = .lane i) (hf : s.hc.full = false) :
    s.laneSilent i = s.enterHoldover := if_pos ⟨h, by simp [hf]⟩

theorem State.laneSilent_ignored {i : LaneId} (h : s.hc.source ≠ .lane i ∨ s.hc.full = true) : s.laneSilent i = s := by
  refine if_neg fun hdue => ?_
  obtain ⟨hsource, hfull⟩ := hdue
  rcases h with h | h
  · exact h hsource
  · simp [h] at hfull

end expiries

/-- Settles O18: a due expiry enters HOLDOVER or sets STALE with its notice, and a source lane gone SILENT enters HOLDOVER. -/
theorem lossAndStaleExpiries : Obligations.LossAndStaleExpiries := by
  intro s lost
  refine ⟨fun e hf hs he ht => ?loss, exec_lossExpiry_notDue, fun h hf hs hst hh ht => ?stale, exec_staleExpiry_notDue,
    fun i hi hf hs => ?source, fun i h => ?ignored⟩
  case loss =>
    rw [exec_lossExpiry_due (State.lossDue_iff.mpr ⟨hf, hs, e, he, ht⟩), State.enterHoldover_eq hs]
  case stale =>
    have hreport := State.reportReference_changed (s := s.modHc (fun h => { h with stale := true })) (old := s.hc) (by simp [hst])
    rw [exec_staleExpiry_due (State.staleDue_iff.mpr ⟨hf, hs, hst, h, hh, ht⟩), hreport]
    simp only [hs, State.modHc]
  case source => rw [State.laneSilent_source hi hf, State.enterHoldover_eq hs]
  case ignored =>
    rcases h with h | h | h
    · exact State.laneSilent_ignored (.inl h)
    · exact State.laneSilent_ignored (.inr h)
    · unfold State.laneSilent
      rw [State.enterHoldover_ignored h, ite_self]

end Sys2Proof.Machine

/-! PROOFS. The part's own time: which events are due at a tick, condition by condition, and one period of the house oscillator. -/

namespace Sys2Proof.Machine

open Sys2Proof

/-! ### Conditions of the timeline, the lanes, the slate and the store -/

@[simp] theorem mem_dueAs {c d : Instr} {due : Bool} : c ∈ dueAs due d ↔ due = true ∧ c = d := by
  cases due <;> simp [dueAs]

section conditions

variable (s : State) (i o : LaneId)

theorem State.changeDue_iff : s.changeDue = true ↔ ∃ tl, s.tu.change = some ⟨tl, false⟩ ∧ tl.origin ≤ s.tick := by
  rcases h : s.tu.change with _ | ⟨tl, onRolling⟩
  · simp [State.changeDue, h]
  · cases onRolling <;> simp [State.changeDue, h]

theorem State.missingDue_iff : s.missingDue i = true ↔
    s.hc.full = false ∧ (s.input i).state = .tracking ∧ ∃ g, (s.input i).good = some g ∧
      g.arrival + (1 + (s.input i).missed) * (s.input i).settings.rate.period + (s.input i).settings.rate.period / 2 < s.tick := by
  cases hs : (s.input i).state <;> cases hg : (s.input i).good <;>
    simp [State.missingDue, InLane.missingAt, hs, hg]

theorem State.silenceDue_iff : s.silenceDue i = true ↔
    (s.input i).state ≠ .silent ∧ ∃ a, (s.input i).latest = some a ∧
      a.arrival + (s.input i).settings.silence * (s.input i).settings.rate.period ≤ s.tick := by
  cases hs : (s.input i).state <;> cases hl : (s.input i).latest <;> simp [State.silenceDue, InLane.silentAt, hs, hl]

theorem State.effectDue_iff : s.effectDue o = true ↔
    s.hc.full = false ∧ (s.output o).state = .waiting ∧ ∃ b, (s.output o).nextBoundary = some b ∧ b ≤ s.tick := by
  cases hb : (s.output o).nextBoundary <;> simp [State.effectDue, hb, and_assoc]

/-- R86: a RUNNING PULSE lane's shape, from its configuration in force. -/
theorem OutLane.pulseShape_eq_some {v : OutLane} {pl du p : Nat} : v.pulseShape = some (pl, du, p) ↔
    v.state = .running ∧ ∃ rate drop tl phase, v.inForce = some ⟨.pulse rate drop pl du, tl, phase⟩ ∧ rate.period = p := by
  unfold OutLane.pulseShape
  split <;> simp_all [and_assoc]

/-- R86: a lane has a pulse shape where it is RUNNING with a PULSE configuration in force. -/
theorem OutLane.pulseShape_isSome {v : OutLane} : v.pulseShape.isSome = true ↔
    v.state = .running ∧ ∃ rate drop pl du tl phase, v.inForce = some ⟨.pulse rate drop pl du, tl, phase⟩ := by
  unfold OutLane.pulseShape
  split <;> simp_all

/-- R87: a lane has a word to compose where it is RUNNING with a TIMECODE configuration in force. -/
theorem OutLane.wordShape_isSome {v : OutLane} : v.wordShape.isSome = true ↔
    v.state = .running ∧ ∃ r d line u tl phase, v.inForce = some ⟨.timecode r d line u, some tl, phase⟩ := by
  unfold OutLane.wordShape
  split <;> simp_all

/-- R94: a lane has a sample stream where it is RUNNING with a WORDCLOCK configuration in force. -/
theorem OutLane.sampleStream_isSome {v : OutLane} : v.sampleStream.isSome = true ↔
    v.state = .running ∧ ∃ sr p tl phase, v.inForce = some ⟨.wordclock sr p, tl, phase⟩ := by
  unfold OutLane.sampleStream
  split <;> simp_all

theorem State.pulseStartDue_iff : s.pulseStartDue o = true ↔
    s.hc.full = false ∧ (s.output o).state = .running ∧ ∃ rate drop placement duration tl phase b,
      (s.output o).inForce = some ⟨.pulse rate drop placement duration, tl, phase⟩ ∧ (s.output o).nextBoundary = some b ∧
      b + placement ≤ s.tick := by
  have hdue : s.pulseStartDue o = true ↔ s.hc.full = false ∧ ∃ pl du p b, (s.output o).pulseShape = some (pl, du, p) ∧
      (s.output o).nextBoundary = some b ∧ b + pl ≤ s.tick := by
    rcases hp : (s.output o).pulseShape with _ | ⟨pl, du, p⟩ <;> cases hb : (s.output o).nextBoundary <;>
      simp [State.pulseStartDue, hp, hb]
  simp only [hdue, OutLane.pulseShape_eq_some]
  constructor
  · rintro ⟨hf, pl, du, p, b, ⟨hr, rate, drop, tl, phase, hi, -⟩, hb, ht⟩
    exact ⟨hf, hr, rate, drop, pl, du, tl, phase, b, hi, hb, ht⟩
  · rintro ⟨hf, hr, rate, drop, pl, du, tl, phase, b, hi, hb, ht⟩
    exact ⟨hf, pl, du, _, b, ⟨hr, rate, drop, tl, phase, hi, rfl⟩, hb, ht⟩

theorem State.pulseEndDue_iff : s.pulseEndDue o = true ↔
    s.hc.full = false ∧ (s.output o).state = .running ∧ ∃ rate drop placement duration tl phase e,
      (s.output o).inForce = some ⟨.pulse rate drop placement duration, tl, phase⟩ ∧ (s.output o).highUntil = some e ∧ e ≤ s.tick := by
  cases hh : (s.output o).highUntil <;>
    simp [State.pulseEndDue, hh, OutLane.pulseShape_isSome, and_assoc, -Bool.exists_bool]

theorem State.compositionDue_iff : s.compositionDue o = true ↔
    s.hc.full = false ∧ (s.output o).state = .running ∧ ∃ r d line u tl phase b,
      (s.output o).inForce = some ⟨.timecode r d line u, some tl, phase⟩ ∧ (s.output o).nextBoundary = some b ∧ b ≤ s.tick := by
  cases hb : (s.output o).nextBoundary <;>
    simp [State.compositionDue, hb, OutLane.wordShape_isSome, and_assoc, -Bool.exists_bool]

theorem State.riseDue_iff : s.riseDue o = true ↔
    s.hc.full = false ∧ (s.output o).state = .running ∧ ∃ sr p tl phase b,
      (s.output o).inForce = some ⟨.wordclock sr p, tl, phase⟩ ∧ (s.output o).nextBoundary = some b ∧ b ≤ s.tick := by
  cases hb : (s.output o).nextBoundary <;> simp [State.riseDue, hb, OutLane.sampleStream_isSome, and_assoc]

theorem State.fallDue_iff : s.fallDue o = true ↔
    s.hc.full = false ∧ (s.output o).state = .running ∧ ∃ sr p tl phase e,
      (s.output o).inForce = some ⟨.wordclock sr p, tl, phase⟩ ∧ (s.output o).highUntil = some e ∧ e ≤ s.tick := by
  cases hh : (s.output o).highUntil <;> simp [State.fallDue, hh, OutLane.sampleStream_isSome, and_assoc]

theorem State.debounceDue_iff : s.debounceDue = true ↔ ∃ t, s.su.contact = .timing t ∧ t + 1440 ≤ s.tick := by
  cases h : s.su.contact <;> simp [State.debounceDue, h]

theorem State.burstStepDue_iff : s.burstStepDue = true ↔
    ∃ b, s.su.burst = some b ∧ b.nextStep ≤ s.tick ∧ (b.lit = false ∨ 0 < b.toBegin) := by
  cases h : s.su.burst with
  | none => simp [State.burstStepDue, h]
  | some b => cases hl : b.lit <;> simp [State.burstStepDue, Burst.atLast, h, hl, Nat.pos_iff_ne_zero, and_comm]

theorem State.burstEndDue_iff : s.burstEndDue = true ↔
    ∃ b, s.su.burst = some b ∧ b.nextStep ≤ s.tick ∧ b.lit = true ∧ b.toBegin = 0 := by
  cases h : s.su.burst <;> simp [State.burstEndDue, Burst.atLast, h, and_comm]

theorem State.holdDue_iff : s.holdDue = true ↔ ∃ h, s.su.hold = some h ∧ h.endTick ≤ s.tick := by
  cases h : s.su.hold <;> simp [State.holdDue, h]

theorem State.writeDue_iff : s.writeDue = true ↔ ∃ w, s.store.write = some w ∧ w.endTick ≤ s.tick := by
  cases h : s.store.write <;> simp [State.writeDue, h]

end conditions

/-! ### Conditions of a link -/

section link

variable (p : LinkPort) (l : LinkId)

theorem LinkPort.batchDue_iff (now : Nat) : p.batchDue now = true ↔ ∃ t, p.batchExpiry = some t ∧ t ≤ now := by
  cases h : p.batchExpiry <;> simp [LinkPort.batchDue, h]

theorem LinkPort.feedDue_iff : p.feedDue = true ↔ (p.feeder = .free ∧ p.response ≠ none) ∨
    (p.tx.length < 32 ∧ ((p.feeder = .response ∧ p.response ≠ none) ∨ ∃ entered rest, p.feeder = .notice entered rest)) := by
  cases h : p.feeder <;> simp [LinkPort.feedDue, LinkPort.txRoom, h, Option.isSome_iff_ne_none, and_comm]

theorem LinkPort.noticeReady_iff : p.noticeReady = true ↔
    p.feeder = .free ∧ p.response = none ∧ p.release = true ∧ p.restartAfter = none ∧ p.queue ≠ [] := by
  simp [LinkPort.noticeReady, and_assoc]

/-- R182: what a frame spells is a request of its own link. -/
theorem requestLink_of_decodeRequest {kind : Byte} {body : List Byte} {c : Instr} (h : decodeRequest l kind body = some c) :
    requestLink c = some l := by
  have hmap : (decodeRequest l kind body).map requestLink = (decodeRequest l kind body).map (fun _ => some l) := by
    unfold decodeRequest
    split
    · split <;> rfl
    · rfl
  simpa [h] using hmap

/-- R158: a link free to answer takes its held refusal, or the request that its held frame spells. -/
theorem LinkPort.mem_heldCommand {c : Instr} : c ∈ p.heldCommand l ↔ p.free = true ∧
    ((c = .assemblerRefusal l ∧ ∃ k code, p.assembler = .done (.refusal k code)) ∨
      (requestLink c = some l ∧ ∃ kind body, p.assembler = .done (.request kind body) ∧ decodeRequest l kind body = some c)) := by
  have hlink {kind : Byte} {body : List Byte} : decodeRequest l kind body = some c → requestLink c = some l :=
    requestLink_of_decodeRequest l
  unfold LinkPort.heldCommand
  split
  · simp_all [and_iff_right_of_imp hlink]
  · simp_all
  all_goals simp_all

end link

/-! ### Every event that is due -/

@[simp] theorem mem_allLanes (i : LaneId) : i ∈ allLanes := by
  revert i
  decide

@[simp] theorem mem_allLinks (l : LinkId) : l ∈ allLinks := by
  revert l
  decide

theorem State.mem_dueCommands (s : State) (c : Instr) : c ∈ s.dueCommands ↔
    ((s.changeDue = true ∧ c = .pendingChangeDue) ∨ (s.lossDue = true ∧ c = .lossExpiry) ∨ (s.staleDue = true ∧ c = .staleExpiry)) ∨
    (∃ i, (s.missingDue i = true ∧ c = .missingExpiry i) ∨ (s.silenceDue i = true ∧ c = .silenceExpiry i)) ∨
    (∃ o, (s.effectDue o = true ∧ c = .effectBoundary o) ∨ (s.pulseEndDue o = true ∧ c = .pulseEnd o) ∨
      (s.fallDue o = true ∧ c = .wordclockFall o) ∨ (s.pulseStartDue o = true ∧ c = .pulseStart o) ∨
      (s.compositionDue o = true ∧ c = .wordComposition o) ∨ (s.riseDue o = true ∧ c = .wordclockRise o)) ∨
    ((s.debounceDue = true ∧ c = .debounceExpiry) ∨ (s.burstStepDue = true ∧ c = .burstStep) ∨
      (s.burstEndDue = true ∧ c = .burstEnd) ∨ (s.holdDue = true ∧ c = .holdEnd) ∨ (s.writeDue = true ∧ c = .writeEnd) ∨
      (s.fullDue = true ∧ c = .houseFull)) ∨
    ∃ l, ((s.link l).batchDue s.tick = true ∧ c = .batchExpiry l) ∨
      (((s.link l).rx ≠ [] ∧ (s.link l).assembler.isDone = false) ∧ c = .characterTaken l) ∨ c ∈ (s.link l).heldCommand l ∨
      ((s.link l).feedDue = true ∧ c = .feederCharacter l) ∨ ((s.link l).noticeReady = true ∧ c = .noticeFed l) := by
  simp [State.dueCommands, State.inputDue, State.outputDue, State.unitDue, State.linkDue, or_assoc]

/-- R158: a request is owed where a free link holds a frame that spells it. -/
theorem State.request_mem_dueCommands {s : State} {c : Instr} {l : LinkId} (hl : requestLink c = some l) :
    c ∈ s.dueCommands ↔ (s.link l).free = true ∧
      ∃ kind body, (s.link l).assembler = .done (.request kind body) ∧ decodeRequest l kind body = some c := by
  constructor
  · intro h
    rcases (s.mem_dueCommands c).mp h with h | ⟨i, h⟩ | ⟨o, h⟩ | h | ⟨k, ⟨-, rfl⟩ | ⟨-, rfl⟩ | h | ⟨-, rfl⟩ | ⟨-, rfl⟩⟩
    · rcases h with ⟨-, rfl⟩ | ⟨-, rfl⟩ | ⟨-, rfl⟩ <;> cases hl
    · rcases h with ⟨-, rfl⟩ | ⟨-, rfl⟩ <;> cases hl
    · rcases h with ⟨-, rfl⟩ | ⟨-, rfl⟩ | ⟨-, rfl⟩ | ⟨-, rfl⟩ | ⟨-, rfl⟩ | ⟨-, rfl⟩ <;> cases hl
    · rcases h with ⟨-, rfl⟩ | ⟨-, rfl⟩ | ⟨-, rfl⟩ | ⟨-, rfl⟩ | ⟨-, rfl⟩ | ⟨-, rfl⟩ <;> cases hl
    · cases hl
    · cases hl
    · obtain ⟨hfree, ⟨rfl, -⟩ | ⟨hk, hheld⟩⟩ := (s.link k).mem_heldCommand k |>.mp h
      · cases hl
      · obtain rfl := Option.some.inj (hk.symm.trans hl)
        exact ⟨hfree, hheld⟩
    · cases hl
    · cases hl
  · rintro ⟨hfree, hheld⟩
    have hmem := ((s.link l).mem_heldCommand l).mpr ⟨hfree, .inr ⟨hl, hheld⟩⟩
    exact (s.mem_dueCommands c).mpr (.inr (.inr (.inr (.inr ⟨l, .inr (.inr (.inl hmem))⟩))))

/-- R158: of the events, DONE gives the refusal alone. -/
theorem LinkPort.event_mem_heldCommand {p : LinkPort} {l : LinkId} {c : Instr} (hc : requestLink c = none) :
    c ∈ p.heldCommand l ↔ p.free = true ∧ c = .assemblerRefusal l ∧ ∃ k code, p.assembler = .done (.refusal k code) := by
  simp [LinkPort.mem_heldCommand, hc]

/-- R24: the events that are due are those whose rule's condition holds. -/
theorem State.mem_dueCommands_iff_owes (s : State) (c : Instr) : c ∈ s.dueCommands ↔ s.Owes c := by
  cases hl : requestLink c with
  | some l =>
    rw [State.request_mem_dueCommands hl]
    cases c <;> cases hl <;> rfl
  | none =>
    rw [State.mem_dueCommands]
    simp only [LinkPort.event_mem_heldCommand hl]
    cases c with
    | houseFull => simp [State.Owes, s.fullDue_iff]
    | lossExpiry => simp [State.Owes, State.lossDue_iff]
    | staleExpiry => simp [State.Owes, State.staleDue_iff]
    | pendingChangeDue => simp [State.Owes, s.changeDue_iff]
    | missingExpiry i => simp [State.Owes, s.missingDue_iff]
    | silenceExpiry i => simp [State.Owes, s.silenceDue_iff]
    | effectBoundary o => simp [State.Owes, s.effectDue_iff]
    | pulseStart o => simp [State.Owes, s.pulseStartDue_iff, -Bool.exists_bool]
    | pulseEnd o => simp [State.Owes, s.pulseEndDue_iff, -Bool.exists_bool]
    | wordComposition o => simp [State.Owes, s.compositionDue_iff, -Bool.exists_bool]
    | wordclockRise o => simp [State.Owes, s.riseDue_iff]
    | wordclockFall o => simp [State.Owes, s.fallDue_iff]
    | debounceExpiry => simp [State.Owes, s.debounceDue_iff]
    | burstStep => simp [State.Owes, s.burstStepDue_iff]
    | burstEnd => simp [State.Owes, s.burstEndDue_iff]
    | holdEnd => simp [State.Owes, s.holdDue_iff]
    | writeEnd => simp [State.Owes, s.writeDue_iff]
    | batchExpiry l => simp [State.Owes, LinkPort.batchDue_iff]
    | characterTaken l => simp [State.Owes]
    | assemblerRefusal l => simp [State.Owes]
    | feederCharacter l => simp [State.Owes, LinkPort.feedDue_iff]
    | noticeFed l => simp [State.Owes, LinkPort.noticeReady_iff]
    | startUp | referenceEdge | wordArrival | pulseEdge | contactClose | contactOpen | characterReceived | lineBreak | breakEnd
    | silenceTimerExpiry | characterSent | pauseAsserted | pauseReleased => simp [State.Owes]
    | _ => exact absurd hl (by simp [requestLink])

/-! ### One period of the house oscillator (R24, R25) -/

/-- R24, R26: a trim in range keeps one oscillator period within a tick. -/
theorem HouseClock.periodAdds_eq {h : HouseClock} (ht : trimInRange h.trim) :
    (h.periodAdds : Int) = 100000000 + h.trim ∧ h.periodAdds < fineWrap := by
  obtain ⟨hlow, hhigh⟩ := ht
  simp only [HouseClock.periodAdds, Config.trimLimit, Config.fineUnit, Config.finePerTick, fineWrap] at *
  omega

theorem HouseClock.advance_within {h : HouseClock} (hf : h.fine + h.periodAdds < fineWrap) :
    h.advance = { h with fine := h.fine + h.periodAdds } := if_pos hf

theorem HouseClock.advance_tick {h : HouseClock} (hf : ¬ h.fine + h.periodAdds < fineWrap) :
    h.advance = { h with fine := h.fine + h.periodAdds - fineWrap, tick := min Config.maxTick (h.tick + 1) } := if_neg hf

/-- R24: a period touches the tick and the fine position only. -/
theorem HouseClock.advance_eq (h : HouseClock) : h.advance = { h with tick := h.advance.tick, fine := h.advance.fine } := by
  by_cases hf : h.fine + h.periodAdds < fineWrap
  · rw [HouseClock.advance_within hf]
  · rw [HouseClock.advance_tick hf]

/-- R24: below the maximum, tick and fine position together advance by 10^8 + trim. -/
theorem HouseClock.advance_counts {h : HouseClock} (ht : trimInRange h.trim) (hlt : h.tick < Config.maxTick) :
    (h.advance.tick = h.tick ∨ h.advance.tick = h.tick + 1) ∧
      (h.advance.tick * 3200000000 + h.advance.fine : Int) = h.tick * 3200000000 + h.fine + 100000000 + h.trim := by
  obtain ⟨hadds, -⟩ := HouseClock.periodAdds_eq ht
  have hwrap : fineWrap = 3200000000 := rfl
  by_cases hf : h.fine + h.periodAdds < fineWrap
  · rw [HouseClock.advance_within hf]
    exact ⟨.inl rfl, by push_cast; omega⟩
  · have hmin : min Config.maxTick (h.tick + 1) = h.tick + 1 := Nat.min_eq_right hlt
    rw [HouseClock.advance_tick hf, hmin]
    exact ⟨.inr rfl, by push_cast; omega⟩

/-- R25: the count holds at its maximum. -/
theorem HouseClock.advance_at_max {h : HouseClock} (ht : h.tick = Config.maxTick) : h.advance.tick = Config.maxTick := by
  by_cases hf : h.fine + h.periodAdds < fineWrap
  · rw [HouseClock.advance_within hf, ht]
  · rw [HouseClock.advance_tick hf, ht]
    rfl

/-! ### An idle step -/

theorem step_idle_due {s : State} {c : Instr} {rest : List Instr} (hp : s.pending = []) (hd : s.dueCommands = c :: rest) :
    step s = exec c s := by
  simp only [step, hp, idle, hd]

theorem step_idle_period {s : State} (hp : s.pending = []) (hd : s.dueCommands = []) : step s = .next s.oscillate := by
  simp only [step, hp, idle, hd]

/-- Settles O2: an idle step by its two equations, the period by what it adds, and the due events condition by condition. -/
theorem idleStepTakesDueEventOrAdvances : Obligations.IdleStepTakesDueEventOrAdvances := by
  refine ⟨fun s hinv hp => ⟨fun c rest => step_idle_due hp, fun hd => ?period⟩, State.mem_dueCommands_iff_owes⟩
  case period =>
    refine ⟨s.oscillate, step_idle_period hp hd, ?_, HouseClock.advance_counts hinv.trim, HouseClock.advance_at_max⟩
    exact congrArg (fun h => ({ s with hc := h } : State)) s.hc.advance_eq

end Sys2Proof.Machine

/-! PROOFS. The bounds every step keeps (R24 to R26, R52, R76, R132): what each operation of each block does to the clock's count, to the
trims the part holds, and to the depths of the jam history, the capture queues and the loose ring. -/

namespace Sys2Proof.Machine

open Sys2Proof

/-! ### The relation, and the updates that do not touch what it bounds -/

/-- R26: every trim the part holds is in range: the live one, the image's and that of a write in flight. -/
structure State.TrimsFit (s : State) : Prop where
  live : trimInRange s.hc.trim
  image : ∀ k, s.store.image = some k → trimInRange k.trim
  write : ∀ w, s.store.write = some w → trimInRange w.snapshot.trim

/-- From `h` to `k` the count stands and a trim in range stays so. -/
structure HouseClock.KeepsCount (h k : HouseClock) : Prop where
  tick : k.tick = h.tick
  full : k.full = h.full
  fine : k.fine = h.fine
  trim : trimInRange h.trim → trimInRange k.trim

/-- From `s` to `t` the count stands, and trims in range and queues within their depths stay so. -/
structure State.KeepsBounds (s t : State) : Prop where
  tick : t.hc.tick = s.hc.tick
  full : t.hc.full = s.hc.full
  fine : t.hc.fine = s.hc.fine
  trims : s.TrimsFit → t.TrimsFit
  depths : s.DepthInv → t.DepthInv

namespace State.KeepsBounds

variable {s t u : State}

theorem refl (s : State) : s.KeepsBounds s := ⟨rfl, rfl, rfl, id, id⟩

theorem trans (h : s.KeepsBounds t) (k : t.KeepsBounds u) : s.KeepsBounds u where
  tick := k.tick.trans h.tick
  full := k.full.trans h.full
  fine := k.fine.trans h.fine
  trims := k.trims ∘ h.trims
  depths := k.depths ∘ h.depths

protected theorem ite {c : Prop} [Decidable c] (h : s.KeepsBounds t) (k : s.KeepsBounds u) : s.KeepsBounds (if c then t else u) := by
  split
  · exact h
  · exact k

/-- What a block answers beside the next state has no part in the bounds. -/
theorem ite_fst {β : Type} {c : Prop} [Decidable c] {a b : State × β} (h : s.KeepsBounds a.1) (k : s.KeepsBounds b.1) :
    s.KeepsBounds (if c then a else b).1 := by
  split
  · exact h
  · exact k

/-- An update of the other blocks, with clock and store as they were, keeps the bounds if it keeps the depths. -/
theorem of_depths (hhc : t.hc = s.hc) (hstore : t.store = s.store) (hdepths : s.DepthInv → t.DepthInv) : s.KeepsBounds t where
  tick := congrArg HouseClock.tick hhc
  full := congrArg HouseClock.full hhc
  fine := congrArg HouseClock.fine hhc
  trims h := ⟨hhc ▸ h.live, hstore ▸ h.image, hstore ▸ h.write⟩
  depths := hdepths

/-- An update that leaves clock, store, jam history, capture queues and loose ring as they were keeps the bounds. -/
theorem of_eq (hhc : t.hc = s.hc := by rfl) (hstore : t.store = s.store := by rfl)
    (hhistory : t.tu.history = s.tu.history := by rfl)
    (hcaptured : ∀ i, (t.input i).captured = (s.input i).captured := by exact fun _ => rfl)
    (hring : t.su.ring = s.su.ring := by rfl) : s.KeepsBounds t :=
  of_depths hhc hstore fun h => ⟨hhistory ▸ h.history, fun i => hcaptured i ▸ h.captured i, hring ▸ h.ring⟩

/-- An update of the clock alone, with its count as it was. -/
theorem modHc {f : HouseClock → HouseClock} (h : s.hc.KeepsCount (f s.hc)) : s.KeepsBounds (s.modHc f) where
  tick := h.tick
  full := h.full
  fine := h.fine
  trims k := ⟨h.trim k.live, k.image, k.write⟩
  depths k := ⟨k.history, k.captured, k.ring⟩

/-- An update of one input lane that keeps its capture queue within its depth. -/
theorem modInput_of_le {i : LaneId} {f : InLane → InLane} (h : (s.input i).captured.length ≤ 4 → (f (s.input i)).captured.length ≤ 4) :
    s.KeepsBounds (s.modInput i f) := by
  refine of_depths rfl rfl fun hd => ⟨hd.history, fun j => ?_, hd.ring⟩
  by_cases hj : j = i
  · subst hj
    rw [State.modInput_input_self]
    exact h (hd.captured j)
  · rw [State.modInput_input_of_ne s i f hj]
    exact hd.captured j

theorem modInput {i : LaneId} {f : InLane → InLane} (h : (f (s.input i)).captured = (s.input i).captured) :
    s.KeepsBounds (s.modInput i f) := modInput_of_le fun hd => h ▸ hd

theorem modTu {f : TimelineUnit → TimelineUnit} (h : s.tu.history.length ≤ 3 → (f s.tu).history.length ≤ 3) :
    s.KeepsBounds (s.modTu f) := of_depths rfl rfl fun hd => ⟨h hd.history, hd.captured, hd.ring⟩

theorem modSu {f : SlateUnit → SlateUnit} (h : s.su.ring.length ≤ 8 → (f s.su).ring.length ≤ 8) :
    s.KeepsBounds (s.modSu f) := of_depths rfl rfl fun hd => ⟨hd.history, hd.captured, h hd.ring⟩

theorem modTt {f : TakeTable → TakeTable} : s.KeepsBounds (s.modTt f) := of_eq

theorem modTake {id : Nat} {f : Take → Take} : s.KeepsBounds (s.modTake id f) := modTt

theorem modOutput {o : LaneId} {f : OutLane → OutLane} : s.KeepsBounds (s.modOutput o f) := of_eq

theorem modLink {l : LinkId} {f : LinkPort → LinkPort} : s.KeepsBounds (s.modLink l f) := of_eq

theorem post {b : NoticeBody} : s.KeepsBounds (s.post b) := of_eq

theorem markChanged {i : LaneId} : s.KeepsBounds (s.markChanged i) := of_eq

end State.KeepsBounds

/-! ### House Clock (R25 to R38) -/

theorem HouseClock.KeepsCount.judge (h : HouseClock) (c : Int) : h.KeepsCount (h.judge c) := by
  unfold HouseClock.judge
  split
  · split <;> exact ⟨rfl, rfl, rfl, id⟩
  · split <;> exact ⟨rfl, rfl, rfl, id⟩
  · exact ⟨rfl, rfl, rfl, id⟩
  · exact ⟨rfl, rfl, rfl, id⟩

/-- R26, R31: a measurement clamps the trim it moves. -/
theorem HouseClock.KeepsCount.measure (h : HouseClock) (c : Int) (stamp : Nat) : h.KeepsCount (h.measure c stamp) := by
  have hjudge := HouseClock.KeepsCount.judge
    { h with
      lastCorrection := some c
      limit := limitAfter h.loop h.trim c
      trim := match h.loop with
        | .track => trackedTrim h.trim c
        | .fixed => h.trim
      windowStart := some stamp
      edgeCount := 0 } c
  refine ⟨hjudge.tick, hjudge.full, hjudge.fine, fun ht => hjudge.trim ?_⟩
  cases h.loop with
  | track => exact clampTrim_inRange _
  | fixed => exact ht

theorem HouseClock.KeepsCount.screen (h : HouseClock) (period : Nat) : h.KeepsCount (h.screen period) := by
  unfold HouseClock.screen
  split
  · dsimp only
    split
    · exact ⟨rfl, rfl, rfl, id⟩
    · split
      · split
        · exact ⟨rfl, rfl, rfl, id⟩
        · have hmeasure := HouseClock.KeepsCount.measure
            { h with edgeCount := h.edgeCount + 1, lastEdge := some h.fineStamp, nextExpected := some (h.tick + period) }
          exact ⟨(hmeasure _ _).tick, (hmeasure _ _).full, (hmeasure _ _).fine, (hmeasure _ _).trim⟩
      · split <;> exact ⟨rfl, rfl, rfl, id⟩
  · exact ⟨rfl, rfl, rfl, id⟩

namespace State.KeepsBounds

variable {s : State}

theorem reportReference {old : HouseClock} : s.KeepsBounds (s.reportReference old) := .ite (refl s) post

theorem applyReference {src : RefSource} {r : RateCode} {lp : LoopMode} {field : Option Int} :
    s.KeepsBounds (s.applyReference src r lp field) := by
  refine trans (modHc ⟨rfl, rfl, rfl, fun h => ?_⟩) reportReference
  cases field with
  | none => exact h
  | some v => exact clampTrim_inRange v

theorem enterHoldover : s.KeepsBounds s.enterHoldover := by
  unfold State.enterHoldover
  split
  · exact (modHc ⟨rfl, rfl, rfl, id⟩).trans reportReference
  · exact (modHc ⟨rfl, rfl, rfl, id⟩).trans reportReference
  · exact refl s
  · exact refl s

theorem laneSilent {i : LaneId} : s.KeepsBounds (s.laneSilent i) := .ite enterHoldover (refl s)

theorem takeEdge : s.KeepsBounds s.takeEdge := by
  refine .ite (refl s) ?_
  dsimp only
  split
  · exact refl s
  · exact (modHc (.screen _ _)).trans reportReference
  · exact (modHc (.screen _ _)).trans reportReference
  · exact (modHc ⟨rfl, rfl, rfl, id⟩).trans reportReference

theorem laneEdge {i : LaneId} : s.KeepsBounds (s.laneEdge i) := .ite takeEdge (refl s)

end State.KeepsBounds

/-! ### House timeline (R46 to R54) -/

/-- R47, R70: an input lane after a house change. -/
theorem State.installHouse_input (s : State) (tl : Timeline) (cause : HouseCause) (lane : Option LaneId) (i : LaneId) :
    (s.installHouse tl cause lane).input i = (s.input i).rebase tl := Eight.get_map _ _ i

namespace State.KeepsBounds

variable {s : State}

/-- R47: a timeline installed leaves the history and every capture queue. -/
theorem installHouse {tl : Timeline} {cause : HouseCause} {lane : Option LaneId} : s.KeepsBounds (s.installHouse tl cause lane) :=
  of_eq (hcaptured := fun i => by rw [s.installHouse_input]; rfl)

/-- R52: the history keeps the newest 3. -/
theorem applyHouse {tl : Timeline} {cause : HouseCause} {lane : Option LaneId} : s.KeepsBounds (s.applyHouse tl cause lane) :=
  (modTu fun _ => List.length_take_le 3 _).trans installHouse

theorem applyPending {p : PendingChange} : s.KeepsBounds (s.applyPending p) := (modTu id).trans applyHouse

theorem rollingEnded : s.KeepsBounds s.rollingEnded := by
  unfold State.rollingEnded
  split
  · exact .ite applyPending (refl s)
  · exact refl s

theorem fallDueChange : s.KeepsBounds s.fallDueChange := by
  unfold State.fallDueChange
  split
  · exact .ite applyPending (modTu id)
  · exact refl s

theorem setHouse {tl : Timeline} {now : Bool} : s.KeepsBounds (s.setHouse tl now).1 :=
  trans (modTu id) (ite_fst (ite_fst applyHouse of_eq) of_eq)

theorem setHouseRequest {cls : Byte} {label : LabelField} {atCode : Byte} {tick : BitVec 48} :
    s.KeepsBounds (setHouseRequest cls label atCode tick s).1 := by
  unfold Machine.setHouseRequest
  split
  · exact ite_fst (refl s) setHouse
  · exact refl s

theorem applyJam {i : LaneId} {tl : Timeline} {cause : HouseCause} : s.KeepsBounds (s.applyJam i tl cause) :=
  (modTu id).trans applyHouse

theorem jamRequest {lane : Byte} : s.KeepsBounds (jamRequest lane s).1 := by
  unfold Machine.jamRequest
  split
  · exact refl s
  · refine ite_fst (refl s) (ite_fst (ite_fst (refl s) ?_) (refl s))
    split
    · exact ite_fst (refl s) applyJam
    · exact refl s

theorem unjamRequest : s.KeepsBounds (unjamRequest s).1 := by
  unfold Machine.unjamRequest
  refine ite_fst (refl s) ?_
  split
  · exact refl s
  · rename_i top rest hhistory
    have hrest (h : s.tu.history.length ≤ 3) : rest.length ≤ 3 := by
      rw [hhistory, List.length_cons] at h
      omega
    exact (modTu (f := fun t => { t with history := rest }) hrest).trans installHouse

theorem setAutojamRequest {setting : Byte} : s.KeepsBounds (setAutojamRequest setting s).1 := by
  unfold Machine.setAutojamRequest
  split
  · exact modTu (f := fun t => { t with autoJam := _ }) id
  · exact refl s

theorem autoJamTrigger {i : LaneId} : s.KeepsBounds (s.autoJamTrigger i) := by
  refine .ite ?_ (refl s)
  split
  · exact .ite (refl s) applyJam
  · exact refl s

end State.KeepsBounds

/-! ### Take table (R101 to R123) -/

namespace State.KeepsBounds

variable {s : State}

theorem removeTake {t : Take} {cause : TakeCause} {actor : Origin} : s.KeepsBounds (s.removeTake t cause actor) := of_eq

theorem appendTake {t : Take} : s.KeepsBounds (s.appendTake t) := of_eq

theorem rollTake {t : Take} {start : Nat} {cause : TakeCause} {actor : Origin} {x : Option LaneId} :
    s.KeepsBounds (s.rollTake t start cause actor x) := of_eq

theorem closeTake {t : Take} {actor : Origin} : s.KeepsBounds (s.closeTake t actor) := of_eq

/-- R108: a rolling count of 0 may let a held change in. -/
theorem cutTake {t : Take} {endTick : Nat} {cause : TakeCause} {actor : Origin} :
    s.KeepsBounds (s.cutTake t endTick cause actor) := .ite (trans of_eq rollingEnded) of_eq

theorem offerMark {t : Take} {m : Mark} : s.KeepsBounds (s.offerMark t m) := .ite of_eq of_eq

theorem armRequest {l : LinkId} {scene shot : List Byte} {number : BitVec 16} {flags count : Byte} {slots : List Byte} :
    s.KeepsBounds (armRequest l scene shot number flags count slots s).1 := by
  unfold Machine.armRequest
  split
  · refine ite_fst (refl s) (ite_fst (refl s) (ite_fst (refl s) (ite_fst (refl s) (ite_fst (refl s) ?_))))
    refine trans ?_ appendTake
    split
    · exact removeTake
    · exact refl s
  · exact refl s

theorem rollRequest {l : LinkId} {id : BitVec 16} : s.KeepsBounds (rollRequest l id s).1 := by
  unfold Machine.rollRequest
  split
  · exact refl s
  · exact ite_fst (refl s) (ite_fst (refl s) (ite_fst (refl s) rollTake))

theorem cutRequest {l : LinkId} {id : BitVec 16} : s.KeepsBounds (cutRequest l id s).1 := by
  unfold Machine.cutRequest
  split
  · exact refl s
  · exact ite_fst (refl s) cutTake

theorem closeRequest {l : LinkId} {id : BitVec 16} : s.KeepsBounds (closeRequest l id s).1 := by
  unfold Machine.closeRequest
  split
  · exact refl s
  · exact ite_fst (refl s) closeTake

theorem voidRequest {l : LinkId} {id : BitVec 16} : s.KeepsBounds (voidRequest l id s).1 := by
  unfold Machine.voidRequest
  split
  · exact refl s
  · split
    · exact refl s
    · exact removeTake
    · exact removeTake
    · exact ite_fst removeTake (refl s)

theorem rateRequest {id : BitVec 16} {rating : Byte} : s.KeepsBounds (rateRequest id rating s).1 := by
  unfold Machine.rateRequest
  split
  · exact refl s
  · split
    · exact refl s
    · exact modTake

theorem markRequest {l : LinkId} {id : BitVec 16} {tickMode : Byte} {tick : BitVec 48} {code : Byte} :
    s.KeepsBounds (markRequest l id tickMode tick code s).1 := by
  unfold Machine.markRequest
  split
  · exact refl s
  · split
    · exact refl s
    · exact ite_fst (refl s) (ite_fst (refl s) (ite_fst (refl s) offerMark))

theorem collectRequest {l : LinkId} {id : BitVec 16} : s.KeepsBounds (collectRequest l id s).1 := by
  unfold Machine.collectRequest
  split
  · exact refl s
  · exact ite_fst (refl s) modTake

theorem autoCutTest {id stop : Nat} {i : LaneId} : s.KeepsBounds (s.autoCutTest id stop i) := by
  unfold State.autoCutTest
  split
  · exact .ite cutTake (refl s)
  · exact refl s

theorem runStart {i : LaneId} {stamp : Nat} : s.KeepsBounds (s.runStart i stamp) := by
  unfold State.runStart
  split
  · exact modTake
  · split
    · exact refl s
    · exact .ite post (.ite post rollTake)

theorem runStop {i : LaneId} {stamp : Nat} : s.KeepsBounds (s.runStop i stamp) := by
  unfold State.runStop
  split
  · exact modTake.trans autoCutTest
  · exact refl s

theorem takeDropout {i : LaneId} {stamp : Nat} : s.KeepsBounds (s.takeDropout i stamp) := by
  unfold State.takeDropout
  split
  · exact (offerMark.trans modTake).trans autoCutTest
  · exact refl s

theorem takeSlip {i : LaneId} {stamp : Nat} : s.KeepsBounds (s.takeSlip i stamp) := by
  unfold State.takeSlip
  split
  · exact offerMark.trans modTake
  · exact refl s

theorem clapOnTake {stamp : Nat} {source : Origin} : s.KeepsBounds (s.clapOnTake stamp source).1 := by
  unfold State.clapOnTake
  split
  · refine ite_fst ?_ (refl s)
    split
    · exact modTake
    · exact offerMark
  · exact refl s

end State.KeepsBounds

/-! ### Slate unit (R128 to R143) -/

/-- R132: the ring holds at most 8 loose claps. -/
theorem SlateUnit.addLoose_ring_le (u : SlateUnit) (c : LooseClap) (h : u.ring.length ≤ 8) : (u.addLoose c).ring.length ≤ 8 := by
  unfold SlateUnit.addLoose
  split
  · simp only [List.length_append, List.length_drop, List.length_singleton]
    omega
  · simp only [List.length_append, List.length_singleton]
    omega

namespace State.KeepsBounds

variable {s : State}

theorem fileClap {stamp : Nat} {source : Origin} : s.KeepsBounds (s.fileClap stamp source).1 := by
  unfold State.fileClap
  dsimp only
  split
  · exact clapOnTake.trans post
  · exact clapOnTake.trans post
  · exact (clapOnTake.trans (modSu (SlateUnit.addLoose_ring_le _ _))).trans post

theorem startBurst : s.KeepsBounds s.startBurst := .ite of_eq (refl s)

theorem startHold {stamp : Nat} : s.KeepsBounds (s.startHold stamp) := .ite of_eq (refl s)

theorem acceptClap {stamp : Nat} {source : Origin} : s.KeepsBounds (s.acceptClap stamp source).1 := by
  have hfile : s.KeepsBounds ((s.modSu (fun u => { u with lockout := some stamp })).fileClap stamp source).1 := trans of_eq fileClap
  have hindicate (u : State) : u.KeepsBounds u.indicateClap := of_eq
  exact ((hfile.trans (hindicate _)).trans startBurst).trans startHold

theorem presentClap {stamp : Nat} {source : Origin} : s.KeepsBounds (s.presentClap stamp source).1 := ite_fst acceptClap (refl s)

theorem readLooseRequest {clear : Byte} : s.KeepsBounds (readLooseRequest clear s).1 := by
  unfold Machine.readLooseRequest
  split
  · exact refl s
  · exact .ite (modSu fun _ => Nat.zero_le 8) (refl s)

theorem setFlashRequest {count : Byte} {onTime : BitVec 24} {duty : Byte} : s.KeepsBounds (setFlashRequest count onTime duty s).1 := by
  unfold Machine.setFlashRequest
  split
  · exact refl s
  · exact of_eq

theorem setPointer {f : PointerField} : s.KeepsBounds (s.setPointer f) := by
  cases f with
  | auto | take id => exact of_eq
  | keep => exact refl s

theorem acceptPanel {p : PanelSettings} : s.KeepsBounds (s.acceptPanel p) := of_eq

theorem setSlateRequest {pointer : Byte} {take : BitVec 16} {display lane cycle duty : Byte} {hold : BitVec 24} :
    s.KeepsBounds (setSlateRequest pointer take display lane cycle duty hold s).1 := by
  unfold Machine.setSlateRequest
  split
  · split
    · exact refl s
    · exact setPointer.trans acceptPanel
  · exact refl s

end State.KeepsBounds

/-! ### Input lanes (R57 to R79) -/

/-- R76, R77: capture admits an arrival only below 4 words. -/
theorem InLane.offerCapture_length_le (v : InLane) (c : Captured) (h : v.captured.length ≤ 4) : (v.offerCapture c).captured.length ≤ 4 := by
  unfold InLane.offerCapture
  split
  · exact h
  all_goals
    split
    · exact h
    · split
      · simp only [List.length_append, List.length_singleton]
        omega
      · exact h

@[simp] theorem InLane.addOffset_captured (v : InLane) (off : Int) (arrival : Nat) : (v.addOffset off arrival).captured = v.captured := by
  rw [InLane.addOffset_keeps]

namespace State.KeepsBounds

variable {s : State} {i : LaneId}

theorem count {f : Counters → Counters} : s.KeepsBounds (s.count i f) := modInput rfl

theorem reportLane {prev now : Tracking} {cause : LaneCause} {lock : Option Int} :
    s.KeepsBounds (s.reportLane i prev now cause lock) := post.trans markChanged

theorem enterSeeking : s.KeepsBounds (s.enterSeeking i) := trans (modInput rfl) reportLane

theorem enterTracking {off : Int} : s.KeepsBounds (s.enterTracking i off) :=
  (trans (modInput rfl) reportLane).trans autoJamTrigger

theorem leaveTracking {seeking : Nat} {cause : LaneCause} : s.KeepsBounds (s.leaveTracking i seeking cause) :=
  trans (modInput rfl) reportLane

theorem discontinuity : s.KeepsBounds (s.discontinuity i) := count.trans leaveTracking

theorem slip {off lock : Int} {stamp : Nat} : s.KeepsBounds (s.slip i off lock stamp) := by
  have htrigger : s.KeepsBounds ((s.count i (fun c => { c with slip := bump c.slip })).autoJamTrigger i) := count.trans autoJamTrigger
  unfold State.slip
  dsimp only
  exact trans (((htrigger.trans (.ite takeSlip (refl _))).trans post).trans markChanged) (modInput rfl)

theorem judgeSlip {off : Int} {stamp : Nat} : s.KeepsBounds (s.judgeSlip i off stamp) := by
  unfold State.judgeSlip
  dsimp only
  split
  · exact .ite (modInput rfl) (.ite slip (refl s))
  · exact modInput rfl

theorem takeRunFlag {run entry : Bool} {stamp : Nat} : s.KeepsBounds (s.takeRunFlag i run entry stamp) := by
  unfold State.takeRunFlag
  dsimp only
  exact trans (.ite (.ite runStart (.ite runStop (refl s))) (refl s)) (modInput rfl)

theorem takeClapFlag {clap entry : Bool} {stamp : Nat} : s.KeepsBounds (s.takeClapFlag i clap entry stamp) := by
  unfold State.takeClapFlag
  dsimp only
  exact trans (.ite presentClap (refl s)) (modInput rfl)

theorem takeFlags {g : GoodArrival} {entry : Bool} : s.KeepsBounds (s.takeFlags i g entry) := by
  unfold State.takeFlags
  split
  · exact takeRunFlag.trans takeClapFlag
  · exact refl s

theorem track {g : GoodArrival} {off : Int} {follows continues : Bool} : s.KeepsBounds (s.track i g off follows continues) := by
  unfold State.track
  dsimp only
  split
  · exact enterSeeking
  · exact .ite (enterTracking.trans takeFlags) (modInput rfl)
  · exact .ite ((trans (modInput rfl) judgeSlip).trans takeFlags) discontinuity

theorem goodArrival {g : GoodArrival} {off : Int} {follows : Nat → Bool} : s.KeepsBounds (s.goodArrival i g off follows) := by
  have hrecord : s.KeepsBounds (s.modInput i (fun v => { (v.addOffset off g.arrival) with good := some g })) :=
    modInput (InLane.addOffset_captured _ _ _)
  exact ((hrecord.trans count).trans laneEdge).trans track

theorem errorWord : s.KeepsBounds (s.errorWord i) := by
  unfold State.errorWord
  dsimp only
  split
  · exact count
  · exact count.trans (modInput rfl)
  · exact .ite (count.trans leaveTracking) (count.trans (modInput rfl))

theorem recordArrival {c : Captured} : s.KeepsBounds (s.recordArrival i c) :=
  modInput_of_le (InLane.offerCapture_length_le _ c)

theorem wordArrives {w : FrameWord} : s.KeepsBounds (s.wordArrives i w) := by
  refine .ite ?_ (refl s)
  dsimp only
  split
  · exact recordArrival.trans goodArrival
  all_goals exact recordArrival.trans errorWord

theorem edgeArrives : s.KeepsBounds (s.edgeArrives i) := .ite (recordArrival.trans goodArrival) (refl s)

theorem dropout : s.KeepsBounds (s.dropout i) := .ite ((takeDropout.trans post).trans markChanged) (refl s)

theorem goSilent {cause : LaneCause} : s.KeepsBounds (s.goSilent i cause) :=
  ((dropout.trans (modInput rfl)).trans reportLane).trans laneSilent

/-- R58: a cleared lane holds no captured word. -/
theorem applyInput {set : InSettings} : s.KeepsBounds (s.applyInput i set) := by
  unfold State.applyInput
  exact trans (.ite (refl s) goSilent) (modInput_of_le fun _ => Nat.zero_le 4)

theorem setInputRequest {lane kind cls drop role : Byte} {lead : BitVec 16} {window silence : Byte} {tolerance : BitVec 16} :
    s.KeepsBounds (setInputRequest lane kind cls drop role lead window silence tolerance s).1 := by
  unfold Machine.setInputRequest
  split
  · exact ite_fst (refl s) applyInput
  · exact refl s

theorem readInputRequest {l : LinkId} {lane : Byte} : s.KeepsBounds (readInputRequest l lane s).1 := by
  unfold Machine.readInputRequest
  split
  · exact of_eq
  · exact refl s

theorem captureRequest {lane mode flush : Byte} : s.KeepsBounds (captureRequest lane mode flush s).1 := by
  unfold Machine.captureRequest
  split
  · dsimp only
    refine modInput_of_le fun h => ?_
    unfold InLane.setCapture
    dsimp only
    split
    · exact Nat.zero_le 4
    · exact h
  · exact refl s

theorem peekRequest {lane count : Byte} : s.KeepsBounds (peekRequest lane count s).1 := by
  unfold Machine.peekRequest
  split
  · exact refl s
  · refine ite_fst (refl s) ?_
    dsimp only
    exact modInput_of_le fun h => (List.drop_sublist _ _).length_le.trans h

end State.KeepsBounds

/-! ### Store (R174 to R180) -/

namespace State.KeepsBounds

variable {s : State}

/-- R174: a write's snapshot holds the live trim. -/
theorem saveRequest {l : LinkId} : s.KeepsBounds (saveRequest l s).1 := by
  refine ite_fst (refl s) (ite_fst (refl s) ?_)
  refine ⟨rfl, rfl, rfl, fun h => ⟨h.live, h.image, fun w hw => ?_⟩, fun h => ⟨h.history, h.captured, h.ring⟩⟩
  obtain rfl := Option.some.inj hw
  exact h.live

/-- R177: the image a write leaves is its snapshot. -/
theorem endWrite : s.KeepsBounds s.endWrite := by
  unfold State.endWrite
  split
  · rename_i w hw
    refine ⟨rfl, rfl, rfl, fun h => ⟨h.live, fun k hk => ?_, fun v hv => nomatch hv⟩, fun h => ⟨h.history, h.captured, h.ring⟩⟩
    obtain rfl := Option.some.inj hk
    exact h.write w hw
  · exact refl s

theorem restartRequest : s.KeepsBounds (restartRequest s).1 := ite_fst (refl s) (ite_fst (refl s) (refl s))

theorem foldl {α : Type} {f : State → α → State} (h : ∀ (u : State) (a : α), u.KeepsBounds (f u a)) (as : List α) :
    s.KeepsBounds (as.foldl f s) := by
  induction as generalizing s with
  | nil => exact refl s
  | cons a as ih => exact (h s a).trans ih

theorem defaultHouse : s.KeepsBounds s.defaultHouse.1 := by
  have hclear : s.KeepsBounds (s.modTu (fun t => { t with autoJam := none, change := none })) := modTu id
  exact ite_fst hclear (ite_fst hclear (hclear.trans setHouse))

theorem loadDefaults {l : LinkId} : s.KeepsBounds (s.loadDefaults l).1 := by
  have hreference : s.KeepsBounds (s.defaultNotices.applyReference .off .f24 .track (some 0)) := trans of_eq applyReference
  have hinputs (u : State) : u.KeepsBounds u.defaultInputs := foldl (fun _ _ => applyInput) _
  have houtputs (u : State) : u.KeepsBounds u.defaultOutputs := foldl (fun _ _ => modOutput) _
  have hpanel (u : State) : u.KeepsBounds ((u.acceptFlash factoryFlash).acceptPanel factoryPanel) := of_eq
  have hdivisors (u : State) : u.KeepsBounds (u.defaultDivisors l) := foldl (fun u _ => .ite (refl u) modLink) _
  exact ((((hreference.trans defaultHouse).trans (hinputs _)).trans (houtputs _)).trans (hpanel _)).trans (hdivisors _)

theorem defaultsRequest {l : LinkId} : s.KeepsBounds (defaultsRequest l s).1 := ite_fst (refl s) loadDefaults

end State.KeepsBounds

/-! ### The other requests, and taking one (R158) -/

namespace State.KeepsBounds

variable {s : State}

theorem setReferenceRequest {source rateClass loop trimMode : Byte} {trim : BitVec 16} :
    s.KeepsBounds (setReferenceRequest source rateClass loop trimMode trim s).1 := by
  unfold Machine.setReferenceRequest
  split
  · exact ite_fst applyReference (refl s)
  · exact refl s

theorem setOutputRequest {lane kind : Byte} {fields : OutputFields} : s.KeepsBounds (setOutputRequest lane kind fields s).1 := by
  unfold Machine.setOutputRequest
  split
  · exact of_eq
  · exact refl s

theorem setLinkRequest {l : LinkId} {link : Byte} {divisor : BitVec 16} : s.KeepsBounds (setLinkRequest l link divisor s).1 := by
  unfold Machine.setLinkRequest
  split
  · exact refl s
  · exact ite_fst (refl s) of_eq

theorem setNoticesRequest {l : LinkId} {classes level timeout : Byte} : s.KeepsBounds (setNoticesRequest l classes level timeout s).1 := by
  unfold Machine.setNoticesRequest
  split
  · exact refl s
  · exact of_eq

theorem takeRequest {l : LinkId} {c : Instr} {act : State → State × Reply} (h : ∀ u : State, u.KeepsBounds (act u).1) :
    s.KeepsBounds (takeRequest l c act s) := by
  unfold Machine.takeRequest
  dsimp only
  refine .ite (trans ?_ modLink) (.ite modLink (refl s))
  cases judgedFrame (requestFrame c).1 (requestFrame c).2 with
  | request k body => exact trans modLink (h _)
  | refusal k code => exact modLink

/-! ### Every command but the three that move the count -/

theorem composeWord {o : LaneId} : s.KeepsBounds (s.composeWord o) := by
  unfold State.composeWord
  dsimp only
  split
  · exact modOutput
  · exact refl s

/-- R24 to R26, R52, R76, R132: every command but HOUSE_FULL, a start-up and a character sent keeps the bounds. -/
theorem exec (c : Instr) (s : State) (hfull : c ≠ .houseFull) (hstart : c ≠ .startUp) (hsent : ∀ l, c ≠ .characterSent l) :
    ∃ t, exec c s = .next t ∧ s.KeepsBounds t := by
  cases c with
  | startUp => exact absurd rfl hstart
  | houseFull => exact absurd rfl hfull
  | characterSent l => exact absurd rfl (hsent l)
  | status l => exact ⟨_, rfl, takeRequest fun _ => of_eq⟩
  | readClock l | readReference l | readPanel l => exact ⟨_, rfl, takeRequest refl⟩
  | setHouse l r lab at_ tick => exact ⟨_, rfl, takeRequest fun _ => setHouseRequest⟩
  | jam l lane => exact ⟨_, rfl, takeRequest fun _ => jamRequest⟩
  | unjam l => exact ⟨_, rfl, takeRequest fun _ => unjamRequest⟩
  | setAutojam l setting => exact ⟨_, rfl, takeRequest fun _ => setAutojamRequest⟩
  | setReference l source r lp mode trim => exact ⟨_, rfl, takeRequest fun _ => setReferenceRequest⟩
  | setInput l lane kind r drop role lead window silence tolerance => exact ⟨_, rfl, takeRequest fun _ => setInputRequest⟩
  | readInput l lane => exact ⟨_, rfl, takeRequest fun _ => readInputRequest⟩
  | capture l lane mode flush => exact ⟨_, rfl, takeRequest fun _ => captureRequest⟩
  | peek l lane count => exact ⟨_, rfl, takeRequest fun _ => peekRequest⟩
  | setOutput l lane kind fields => exact ⟨_, rfl, takeRequest fun _ => setOutputRequest⟩
  | readOutput l lane => exact ⟨_, rfl, takeRequest fun u => (readOutputRequest_state lane u).symm ▸ refl u⟩
  | arm l scene shot number flags count slots => exact ⟨_, rfl, takeRequest fun _ => armRequest⟩
  | roll l id => exact ⟨_, rfl, takeRequest fun _ => rollRequest⟩
  | cut l id => exact ⟨_, rfl, takeRequest fun _ => cutRequest⟩
  | close l id => exact ⟨_, rfl, takeRequest fun _ => closeRequest⟩
  | void l id => exact ⟨_, rfl, takeRequest fun _ => voidRequest⟩
  | rate l id rating => exact ⟨_, rfl, takeRequest fun _ => rateRequest⟩
  | mark l id mode tick code => exact ⟨_, rfl, takeRequest fun _ => markRequest⟩
  | readTake l id => exact ⟨_, rfl, takeRequest fun u => (readTakeRequest_state id u).symm ▸ refl u⟩
  | listTakes l start => exact ⟨_, rfl, takeRequest fun u => (listTakesRequest_state start u).symm ▸ refl u⟩
  | collect l id => exact ⟨_, rfl, takeRequest fun _ => collectRequest⟩
  | clap l => exact ⟨_, rfl, takeRequest fun _ => presentClap⟩
  | setSlate l pointer id display lane cycle duty hold => exact ⟨_, rfl, takeRequest fun _ => setSlateRequest⟩
  | setFlash l count onTime duty => exact ⟨_, rfl, takeRequest fun _ => setFlashRequest⟩
  | readLoose l clear => exact ⟨_, rfl, takeRequest fun _ => readLooseRequest⟩
  | convert l dir a value b => exact ⟨_, rfl, takeRequest refl⟩
  | setLink l link divisor => exact ⟨_, rfl, takeRequest fun _ => setLinkRequest⟩
  | setNotices l classes level timeout => exact ⟨_, rfl, takeRequest fun _ => setNoticesRequest⟩
  | save l => exact ⟨_, rfl, takeRequest fun _ => saveRequest⟩
  | restart l => exact ⟨_, rfl, takeRequest fun _ => restartRequest⟩
  | defaults l => exact ⟨_, rfl, takeRequest fun _ => defaultsRequest⟩
  | referenceEdge => exact ⟨_, rfl, .ite takeEdge (refl s)⟩
  | lossExpiry => exact ⟨_, rfl, .ite enterHoldover (refl s)⟩
  | staleExpiry => exact ⟨_, rfl, .ite ((modHc ⟨rfl, rfl, rfl, id⟩).trans reportReference) (refl s)⟩
  | pendingChangeDue => exact ⟨_, rfl, .ite fallDueChange (refl s)⟩
  | wordArrival i w => exact ⟨_, rfl, wordArrives⟩
  | pulseEdge i => exact ⟨_, rfl, edgeArrives⟩
  | missingExpiry i => exact ⟨_, rfl, .ite (trans (modInput rfl) count) (refl s)⟩
  | silenceExpiry i => exact ⟨_, rfl, .ite goSilent (refl s)⟩
  | effectBoundary o | pulseStart o | pulseEnd o | wordclockRise o | wordclockFall o => exact ⟨_, rfl, .ite modOutput (refl s)⟩
  | wordComposition o => exact ⟨_, rfl, .ite composeWord (refl s)⟩
  | contactClose => exact ⟨_, rfl, .ite of_eq (refl s)⟩
  | contactOpen => exact ⟨_, rfl, of_eq⟩
  | debounceExpiry =>
    refine ⟨_, rfl, ?_⟩
    split
    · exact .ite (trans of_eq presentClap) (refl s)
    · exact refl s
    · exact refl s
  | burstStep | burstEnd | holdEnd => exact ⟨_, rfl, .ite of_eq (refl s)⟩
  | characterReceived l | lineBreak l | breakEnd l | characterTaken l | silenceTimerExpiry l | assemblerRefusal l | feederCharacter l
  | noticeFed l | pauseAsserted l | pauseReleased l | batchExpiry l => exact ⟨_, rfl, modLink⟩
  | writeEnd => exact ⟨_, rfl, .ite endWrite (refl s)⟩

end State.KeepsBounds

section invariants

variable {s t : State}

theorem State.ClockInv.trimsFit (h : s.ClockInv) : s.TrimsFit := ⟨h.trim, h.image, h.write⟩

theorem State.KeepsBounds.clockInv (h : s.KeepsBounds t) (hs : s.ClockInv) : t.ClockInv where
  tick := h.tick.trans_le hs.tick
  full hfull := h.tick.trans (hs.full (h.full ▸ hfull))
  fine := h.fine.trans_lt hs.fine
  trim := (h.trims hs.trimsFit).live
  image := (h.trims hs.trimsFit).image
  write := (h.trims hs.trimsFit).write

/-! ### HOUSE_FULL and the oscillator (R24, R25) -/

/-- R25: HOUSE_FULL is set only at the maximum. -/
theorem State.setFull_clockInv (h : s.ClockInv) (hdue : s.fullDue = true) : s.setFull.ClockInv :=
  ⟨h.tick, fun _ => h.tick.antisymm (s.fullDue_iff.mp hdue).2, h.fine, h.trim, h.image, h.write⟩

theorem State.setFull_depthInv (h : s.DepthInv) : s.setFull.DepthInv := ⟨h.history, h.captured, h.ring⟩

theorem HouseClock.advance_fine_lt {h : HouseClock} (hf : h.fine < fineWrap) (ht : trimInRange h.trim) : h.advance.fine < fineWrap := by
  obtain ⟨-, hadds⟩ := HouseClock.periodAdds_eq ht
  by_cases hlt : h.fine + h.periodAdds < fineWrap
  · rw [HouseClock.advance_within hlt]
    exact hlt
  · rw [HouseClock.advance_tick hlt]
    dsimp only
    omega

/-- R24, R25: from a tick in range a period leaves the tick in range, no lower and at most one higher. -/
theorem HouseClock.advance_tick_bounds {h : HouseClock} (ht : h.tick ≤ Config.maxTick) :
    h.tick ≤ h.advance.tick ∧ h.advance.tick ≤ h.tick + 1 ∧ h.advance.tick ≤ Config.maxTick := by
  by_cases hlt : h.fine + h.periodAdds < fineWrap
  · rw [HouseClock.advance_within hlt]
    exact ⟨le_rfl, Nat.le_succ _, ht⟩
  · rw [HouseClock.advance_tick hlt]
    exact ⟨le_min ht (Nat.le_succ _), min_le_right _ _, min_le_left _ _⟩

theorem HouseClock.advance_full (h : HouseClock) : h.advance.full = h.full := by
  rw [h.advance_eq]

theorem HouseClock.advance_trim (h : HouseClock) : h.advance.trim = h.trim := by
  rw [h.advance_eq]

theorem State.oscillate_clockInv (h : s.ClockInv) : s.oscillate.ClockInv := by
  obtain ⟨-, -, hmax⟩ := HouseClock.advance_tick_bounds h.tick
  exact ⟨hmax, fun hfull => HouseClock.advance_at_max (h.full (s.hc.advance_full ▸ hfull)), HouseClock.advance_fine_lt h.fine h.trim,
    s.hc.advance_trim.symm ▸ h.trim, h.image, h.write⟩

theorem State.oscillate_depthInv (h : s.DepthInv) : s.oscillate.DepthInv := ⟨h.history, h.captured, h.ring⟩

/-! ### Start-up and the character sent (R178, R179) -/

/-- R178: the trim a start-up loads is the image's or the factory's. -/
theorem SettingsStore.startSettings_trim {st : SettingsStore} (h : ∀ k, st.image = some k → trimInRange k.trim) :
    trimInRange st.startSettings.trim := by
  have hfactory : trimInRange factorySettings.trim := ⟨by decide, by decide⟩
  unfold SettingsStore.startSettings
  split
  · cases himage : st.image with
    | none => exact hfactory
    | some k => exact h k himage
  all_goals exact hfactory

theorem State.startUp_clockInv (h : s.ClockInv) : s.startUp.ClockInv where
  tick := Nat.zero_le _
  full hfull := nomatch hfull
  fine := (by decide : 0 < fineWrap)
  trim := SettingsStore.startSettings_trim h.image
  image := h.image
  write w hw := nomatch hw

theorem State.startUp_depthInv (s : State) : s.startUp.DepthInv where
  history := Nat.zero_le _
  captured i := by
    have hlane : (s.startUp.input i).captured = [] := congrArg InLane.captured (Eight.get_map _ _ i)
    simp [hlane]
  ring := Nat.zero_le _

/-- R161, R178: a start-up reads of a link its pause input only. -/
theorem State.startUp_modLink {l : LinkId} {f : LinkPort → LinkPort} (h : (f (s.link l)).pause = (s.link l).pause) :
    (s.modLink l f).startUp = s.startUp := by
  have hpause (k : LinkId) : ((s.modLink l f).links.get k).pause = (s.links.get k).pause := by
    by_cases hk : k = l
    · subst hk
      exact (congrArg LinkPort.pause (s.modLink_link_self k f)).trans h
    · exact congrArg LinkPort.pause (s.modLink_link_of_ne l f hk)
  simp only [State.startUp, Settings.startLink, hpause]
  rfl

theorem LinkPort.countDivisor_keeps (p : LinkPort) :
    p.countDivisor.pause = p.pause ∧ p.countDivisor.restartAfter = p.restartAfter := by
  unfold LinkPort.countDivisor
  split
  · split <;> exact ⟨rfl, rfl⟩
  · exact ⟨rfl, rfl⟩

theorem LinkPort.charSent_pause (p : LinkPort) : p.charSent.pause = p.pause := p.finishChar.countDivisor_keeps.1

theorem LinkPort.charSent_restartAfter (p : LinkPort) : p.charSent.restartAfter = p.restartAfter.map (· - 1) :=
  congrArg (Option.map (· - 1)) p.finishChar.countDivisor_keeps.2

/-- R179: a character sent keeps the bounds, or is the last of an accepted RESTART's response and brings start-up. -/
theorem State.sendChar_cases (s : State) (l : LinkId) :
    s.KeepsBounds (s.sendChar l) ∨ (s.sendChar l = s.startUp ∧ ∃ n, n ≤ 1 ∧ (s.link l).restartAfter = some n) := by
  unfold State.sendChar
  split
  · dsimp only
    split
    · rename_i hrestart
      rw [State.modLink_link_self, LinkPort.charSent_restartAfter, Option.map_eq_some_iff] at hrestart
      obtain ⟨n, hn, hzero⟩ := hrestart
      exact .inr ⟨State.startUp_modLink (s.link l).charSent_pause, n, Nat.sub_eq_zero_iff_le.mp hzero, hn⟩
    · exact .inl .modLink
  · exact .inl (.refl s)

/-! ### Every step -/

/-- R178, R179: command `c` is a start-up in `s`: commanded, or the last character of an accepted RESTART's response. -/
def State.StartsUp (s : State) (c : Instr) : Prop :=
  c = .startUp ∨ ∃ l n, n ≤ 1 ∧ c = .characterSent l ∧ (s.link l).restartAfter = some n

/-- What a command can do to clock and depths: keep the bounds, set HOUSE_FULL where it is due, or be a start-up. -/
theorem exec_cases {c : Instr} (h : exec c s = .next t) :
    s.KeepsBounds t ∨ (s.fullDue = true ∧ t = s.setFull) ∨ (s.StartsUp c ∧ t = s.startUp) := by
  by_cases hstart : c = .startUp
  · subst hstart
    exact .inr (.inr ⟨.inl rfl, (Host.Outcome.next.inj h).symm⟩)
  by_cases hfull : c = .houseFull
  · subst hfull
    by_cases hdue : s.fullDue = true
    · rw [exec_houseFull_due hdue] at h
      exact .inr (.inl ⟨hdue, (Host.Outcome.next.inj h).symm⟩)
    · rw [exec_houseFull_notDue hdue] at h
      exact .inl (Host.Outcome.next.inj h ▸ .refl s)
  by_cases hsent : ∃ l, c = .characterSent l
  · obtain ⟨l, rfl⟩ := hsent
    have ht : s.sendChar l = t := Host.Outcome.next.inj h
    rcases s.sendChar_cases l with hk | ⟨hs, n, hn, hr⟩
    · exact .inl (ht ▸ hk)
    · exact .inr (.inr ⟨.inr ⟨l, n, hn, rfl, hr⟩, ht.symm.trans hs⟩)
  · obtain ⟨u, hu, hk⟩ := State.KeepsBounds.exec c s hfull hstart (fun l hl => hsent ⟨l, hl⟩)
    exact .inl (Host.Outcome.next.inj (hu.symm.trans h) ▸ hk)

/-- R24 to R26, R52, R76, R132: a command keeps clock and depths, with the tick as it was but for a start-up. -/
theorem exec_keepsClockAndDepths {c : Instr} (hclock : s.ClockInv) (hdepth : s.DepthInv) (h : exec c s = .next t) :
    t.ClockInv ∧ t.DepthInv ∧ (t.tick = s.tick ∨ (s.StartsUp c ∧ t = s.startUp)) := by
  rcases exec_cases h with hk | ⟨hdue, rfl⟩ | ⟨hstarts, rfl⟩
  · exact ⟨hk.clockInv hclock, hk.depths hdepth, .inl hk.tick⟩
  · exact ⟨State.setFull_clockInv hclock hdue, State.setFull_depthInv hdepth, .inl rfl⟩
  · exact ⟨State.startUp_clockInv hclock, s.startUp_depthInv, .inr ⟨hstarts, rfl⟩⟩

/-- R24: the part itself never owes a start-up. -/
theorem State.Owes.not_startsUp {c : Instr} (h : s.Owes c) : ¬ s.StartsUp c := by
  rintro (rfl | ⟨l, n, -, rfl, -⟩)
  · exact h
  · exact h

end invariants

/-- Settles O55: a waiting command, an event that is due, or one oscillator period, each by what it does to clock and depths. -/
theorem stepKeepsClockAndDepths : Obligations.StepKeepsClockAndDepths := by
  intro s t hclock hdepth hstep
  cases hp : s.pending with
  | cons c rest =>
    have hrest : s.KeepsBounds { s with pending := rest } := .of_eq
    have hexec : exec c { s with pending := rest } = .next t := by simpa only [step, hp] using hstep
    obtain ⟨hc, hd, htick | ⟨hstarts, ht⟩⟩ := exec_keepsClockAndDepths (hrest.clockInv hclock) (hrest.depths hdepth) hexec
    · exact ⟨hc, hd, .inl ⟨htick.ge, htick.le.trans (Nat.le_succ _)⟩⟩
    · refine ⟨hc, hd, .inr ⟨by rw [ht]; rfl, ?_⟩⟩
      rcases hstarts with rfl | ⟨l, n, hn, rfl, hr⟩
      · exact .inl rfl
      · exact .inr ⟨l, n, hn, rfl, hr⟩
  | nil =>
    cases hdue : s.dueCommands with
    | cons c rest =>
      rw [step_idle_due hp hdue] at hstep
      have howes : s.Owes c := (s.mem_dueCommands_iff_owes c).mp (hdue ▸ List.mem_cons_self)
      obtain ⟨hc, hd, htick | ⟨hstarts, -⟩⟩ := exec_keepsClockAndDepths hclock hdepth hstep
      · exact ⟨hc, hd, .inl ⟨htick.ge, htick.le.trans (Nat.le_succ _)⟩⟩
      · exact absurd hstarts howes.not_startsUp
    | nil =>
      rw [step_idle_period hp hdue] at hstep
      obtain rfl := Host.Outcome.next.inj hstep
      obtain ⟨hlow, hhigh, -⟩ := HouseClock.advance_tick_bounds hclock.tick
      exact ⟨State.oscillate_clockInv hclock, State.oscillate_depthInv hdepth, .inl ⟨hlow, hhigh⟩⟩

end Sys2Proof.Machine

/-! PROOFS. House timeline and jam (chapter 03): what a change installed does to each lane, SET HOUSE and the change it holds, JAM, UNJAM,
SET AUTOJAM and the auto-jam trigger. -/

namespace Sys2Proof.Machine

open Sys2Proof

/-! ### An output lane after a house change (R91, R93) -/

/-- R88, R91: a clap of the abandoned word is indicated again where its end tick is still ahead. -/
theorem OutLane.abandonWord_clapped (v : OutLane) (c : Nat) :
    (v.abandonWord c).clapped = (v.clapped || (match v.word with
      | some w => w.fields.clap && decide (c < w.endTick)
      | none => false)) := by
  rcases v with ⟨state, inForce, waiting, nextBoundary, unitIndex, highUntil, word, clapped⟩
  cases word with
  | none => exact (Bool.or_false clapped).symm
  | some w => rfl

section followHouse

variable {v : OutLane} {tl : Timeline} {c : Nat} {r : RateCode} {d : Bool} {u : UserSource} {t : Option Timeline} {p : Nat}

/-- R93: a lane whose newest configuration is not TIMECODE with FOLLOW is kept. -/
theorem OutLane.followHouse_other (h : ∀ r d u t p, v.newest ≠ some ⟨.timecode r d .follow u, t, p⟩) : v.followHouse tl c = v := by
  unfold OutLane.followHouse
  split
  · exact absurd ‹_› (h _ _ _ _ _)
  · rfl

/-- R93: a FOLLOW lane whose derived timeline stays the same is kept. -/
theorem OutLane.followHouse_same (h : v.newest = some ⟨.timecode r d .follow u, t, p⟩) (ht : t = some (follow tl r d)) :
    v.followHouse tl c = v := by
  simp only [OutLane.followHouse, h, ht, if_true]

theorem OutLane.followHouse_waiting (h : v.newest = some ⟨.timecode r d .follow u, t, p⟩) (ht : t ≠ some (follow tl r d))
    (hw : v.waiting ≠ none) :
    v.followHouse tl c =
      { v with
        waiting := some ⟨.timecode r d .follow u, some (follow tl r d), p⟩
        nextBoundary := some ((follow tl r d).boundaryFrom c) } := by
  obtain ⟨w, hw⟩ := Option.ne_none_iff_exists'.mp hw
  simp only [OutLane.followHouse, h, if_neg ht, hw]

theorem OutLane.followHouse_inForce (h : v.newest = some ⟨.timecode r d .follow u, t, p⟩) (ht : t ≠ some (follow tl r d))
    (hw : v.waiting = none) :
    v.followHouse tl c =
      { v.abandonWord c with
        inForce := some ⟨.timecode r d .follow u, some (follow tl r d), p⟩
        nextBoundary := some ((follow tl r d).boundaryFrom c) } := by
  simp only [OutLane.followHouse, h, if_neg ht, hw]

/-- R93: a FOLLOW lane's newest timeline is the derived one. -/
theorem OutLane.followHouse_newestTimeline (h : v.newest = some ⟨.timecode r d .follow u, t, p⟩) :
    (v.followHouse tl c).newestTimeline = some (follow tl r d) := by
  by_cases ht : t = some (follow tl r d)
  · rw [OutLane.followHouse_same h ht, OutLane.newestTimeline, h]
    exact ht
  · cases hw : v.waiting with
    | some w =>
      rw [OutLane.followHouse_waiting h ht (hw ▸ Option.some_ne_none w)]
      rfl
    | none =>
      rw [OutLane.followHouse_inForce h ht hw, OutLane.abandonWord_eq]
      simp only [OutLane.newestTimeline, OutLane.newest, hw]
      rfl

end followHouse

/-! ### A house timeline installed (R47) -/

section installHouse

variable (s : State) (tl : Timeline) (cause : HouseCause) (lane : Option LaneId)

/-- R93: an output lane after a house change. -/
theorem State.installHouse_output (o : LaneId) : (s.installHouse tl cause lane).output o = (s.output o).followHouse tl s.tick :=
  Eight.get_map _ _ o

/-- R47: one HOUSE_CHANGED notice is offered to every link. -/
theorem State.installHouse_link (k : LinkId) :
    (s.installHouse tl cause lane).link k = (s.link k).offer ⟨.houseChanged cause tl s.tu.history.length lane, s.tick⟩ s.tick :=
  Four.get_map _ _ k

theorem State.installHouse_leaveDone (l : LinkId) :
    (s.modLink l LinkPort.leaveDone).installHouse tl cause lane = (s.installHouse tl cause lane).modLink l LinkPort.leaveDone :=
  State.post_leaveDone
    { s with
      tu := { s.tu with house := tl }
      outputs := s.outputs.map (OutLane.followHouse tl s.tick)
      inputs := s.inputs.map (fun v : InLane => v.rebase tl) } l (.houseChanged cause tl s.tu.history.length lane)

theorem State.applyHouse_leaveDone (l : LinkId) :
    (s.modLink l LinkPort.leaveDone).applyHouse tl cause lane = (s.applyHouse tl cause lane).modLink l LinkPort.leaveDone :=
  State.installHouse_leaveDone (s.modTu (fun t => { t with history := pushHistory t.house t.history })) tl cause lane l

end installHouse

/-- Settles O19: each lane and each link after a house timeline installed, by its newest configuration. -/
theorem houseChangeReachesLanes : Obligations.HouseChangeReachesLanes := by
  intro s tl cause lane
  refine ⟨rfl, rfl, fun i => s.installHouse_input tl cause lane i, fun o hother => ?other, fun o r d u t p hnew => ?follow,
    fun k => s.installHouse_link tl cause lane k, rfl, rfl, rfl, rfl, rfl⟩
  case other =>
    rw [State.installHouse_output]
    exact OutLane.followHouse_other hother
  case follow =>
    rw [State.installHouse_output]
    refine ⟨OutLane.followHouse_newestTimeline hnew, OutLane.followHouse_same hnew, OutLane.followHouse_waiting hnew, fun ht hw => ?_⟩
    rw [OutLane.followHouse_inForce hnew ht hw, OutLane.abandonWord_eq, OutLane.abandonWord_clapped]
    rfl

/-! ### The fields of SET HOUSE (R11, R44) -/

theorem switchOf_unknown {b : Byte} (h : 1 < b.toNat) : switchOf b = none := by
  obtain ⟨k, hk⟩ := Nat.exists_eq_add_of_le' h
  rw [switchOf, hk]
  rfl

section timelineOf

variable {cls : Byte} {label : LabelField} {origin : Nat}

theorem timelineOf_origin {tl : Timeline} (h : timelineOf cls label origin = some tl) : tl.origin = origin := by
  unfold timelineOf at h
  split at h
  · split at h
    · obtain rfl := Option.some.inj h
      rfl
    · nomatch h
  · nomatch h

theorem timelineOf_unknownRate (h : 9 < cls.toNat) : timelineOf cls label origin = none := by
  rw [timelineOf, rateOf_unknown h]

theorem timelineOf_unknownFlag (h : 1 < label.flags.toNat) : timelineOf cls label origin = none := by
  have hlabel : labelOf label = none := if_neg (Nat.not_le.mpr h)
  rw [timelineOf, hlabel]
  cases rateOf cls <;> rfl

/-- R6, R11: an invalid label, which covers a drop mode not allowed, gives no timeline. -/
theorem timelineOf_invalidLabel {r : RateCode} (hr : rateOf cls = some r)
    (h : labelValid r (label.flags.getLsbD 0) ⟨label.hh.toNat, label.mm.toNat, label.ss.toNat, label.ff.toNat⟩ = false) :
    timelineOf cls label origin = none := by
  by_cases hflags : label.flags.toNat ≤ 1
  · simp only [timelineOf, labelOf, hr, if_pos hflags, h, Bool.and_false]
    rfl
  · exact timelineOf_unknownFlag (Nat.not_le.mp hflags)

end timelineOf

/-! ### SET HOUSE (R44, R45) -/

/-- R158: a block that decides without the links commutes with leaving DONE if both its branches do. -/
theorem ite_leaveDone {l : LinkId} {c : Prop} [Decidable c] {a b a' b' : State × Reply} (ha : a' = (a.1.modLink l LinkPort.leaveDone, a.2))
    (hb : b' = (b.1.modLink l LinkPort.leaveDone, b.2)) :
    (if c then a' else b') = ((if c then a else b).1.modLink l LinkPort.leaveDone, (if c then a else b).2) := by
  split
  · exact ha
  · exact hb

section setHouse

variable {s : State} {tl : Timeline} {now : Bool}

theorem State.setHouse_applied (hdue : now = true ∨ tl.origin ≤ s.tick) (hcount : s.tt.rollingCount = 0) :
    s.setHouse tl now = ({ s with tu := { s.tu with change := none } }.applyHouse tl .set none, .applied) :=
  (if_pos ((Bool.or_eq_true _ _).mpr (hdue.imp_right decide_eq_true))).trans (if_pos hcount)

theorem State.setHouse_heldRolling (hdue : now = true ∨ tl.origin ≤ s.tick) (hcount : 0 < s.tt.rollingCount) :
    s.setHouse tl now = ({ s with tu := { s.tu with change := some ⟨tl, true⟩ } }, .heldRolling) :=
  (if_pos ((Bool.or_eq_true _ _).mpr (hdue.imp_right decide_eq_true))).trans (if_neg hcount.ne')

theorem State.setHouse_heldTime (hahead : ¬ (now = true ∨ tl.origin ≤ s.tick)) :
    s.setHouse tl now = ({ s with tu := { s.tu with change := some ⟨tl, false⟩ } }, .heldTime) :=
  if_neg fun hdue => hahead (((Bool.or_eq_true _ _).mp hdue).imp_right of_decide_eq_true)

theorem State.setHouse_leaveDone (l : LinkId) :
    (s.modLink l LinkPort.leaveDone).setHouse tl now = ((s.setHouse tl now).1.modLink l LinkPort.leaveDone, (s.setHouse tl now).2) := by
  by_cases hdue : now = true ∨ tl.origin ≤ s.tick
  · rcases Nat.eq_zero_or_pos s.tt.rollingCount with hcount | hcount
    · rw [State.setHouse_applied hdue hcount, ← State.applyHouse_leaveDone]
      exact State.setHouse_applied hdue hcount
    · rw [State.setHouse_heldRolling hdue hcount]
      exact State.setHouse_heldRolling hdue hcount
  · rw [State.setHouse_heldTime hdue]
    exact State.setHouse_heldTime hdue

variable {cls : Byte} {label : LabelField} {atCode : Byte} {tick : BitVec 48}

theorem setHouseRequest_leaveDone (l : LinkId) :
    setHouseRequest cls label atCode tick (s.modLink l LinkPort.leaveDone) =
      ((setHouseRequest cls label atCode tick s).1.modLink l LinkPort.leaveDone, (setHouseRequest cls label atCode tick s).2) := by
  simp only [setHouseRequest, State.setHouse_leaveDone, State.nowOrigin, State.modLink_tick]
  split
  · exact ite_leaveDone rfl rfl
  · rfl

/-- R158: SET HOUSE, taken. -/
theorem exec_setHouse {l : LinkId} (h : s.takes l (.setHouse l cls label atCode tick) = true) :
    exec (.setHouse l cls label atCode tick) s =
      .next ((setHouseRequest cls label atCode tick s).1.answered l 0x03#8 (setHouseRequest cls label atCode tick s).2) :=
  congrArg Host.Outcome.next
    (takeRequest_acts h (Laws.BodyFits.setHouse l cls label atCode tick rfl rfl) (setHouseRequest_leaveDone l))

theorem setHouseRequest_badField (h : switchOf atCode = none ∨ timelineOf cls label tick.toNat = none) :
    setHouseRequest cls label atCode tick s = (s, .no .badValue) := by
  unfold setHouseRequest
  split
  · simp_all
  · rfl

/-- R44: an origin of 48 bits lies within the range of the house tick. -/
theorem setHouseRequest_onTick (h : timelineOf cls label tick.toNat = some tl) :
    setHouseRequest cls label 1#8 tick s = ((s.setHouse tl false).1, .ok ((s.setHouse tl false).2.code :: tickChars tl.origin)) := by
  have horigin : ¬ Config.maxTick < tl.origin := by
    rw [timelineOf_origin h]
    exact Nat.not_lt.mpr (Nat.le_of_lt_succ tick.isLt)
  have hcode : switchOf 1#8 = some true := rfl
  simp only [setHouseRequest, hcode, h, if_true, if_neg horigin, Bool.not_true]

theorem setHouseRequest_nowAbove (h : timelineOf cls label tick.toNat = some tl)
    (habove : Config.maxTick < gridAtOrAfter tl.rate.period s.tick) :
    setHouseRequest cls label 0#8 tick s = (s, .no .range) := by
  have hcode : switchOf 0#8 = some false := rfl
  simp only [setHouseRequest, hcode, h, Bool.false_eq_true, if_false, State.nowOrigin, if_pos habove]

theorem setHouseRequest_now (h : timelineOf cls label tick.toNat = some tl)
    (hwithin : gridAtOrAfter tl.rate.period s.tick ≤ Config.maxTick) :
    setHouseRequest cls label 0#8 tick s =
      ((s.setHouse { tl with origin := gridAtOrAfter tl.rate.period s.tick } true).1,
        .ok ((s.setHouse { tl with origin := gridAtOrAfter tl.rate.period s.tick } true).2.code ::
          tickChars (gridAtOrAfter tl.rate.period s.tick))) := by
  have hcode : switchOf 0#8 = some false := rfl
  simp only [setHouseRequest, hcode, h, Bool.false_eq_true, if_false, State.nowOrigin, if_neg (Nat.not_lt.mpr hwithin), Bool.not_false]

end setHouse

/-! ### The change held on time falls due (R46) -/

section fallDue

variable {s : State} {tl : Timeline}

theorem exec_pendingChangeDue_due (hchange : s.tu.change = some ⟨tl, false⟩) (hdue : tl.origin ≤ s.tick) :
    exec .pendingChangeDue s = .next s.fallDueChange :=
  congrArg Host.Outcome.next (if_pos (s.changeDue_iff.mpr ⟨tl, hchange, hdue⟩))

theorem exec_pendingChangeDue_notDue (h : ∀ tl, s.tu.change = some ⟨tl, false⟩ → s.tick < tl.origin) :
    exec .pendingChangeDue s = .next s := by
  refine congrArg Host.Outcome.next (if_neg fun hdue => ?_)
  obtain ⟨tl, hchange, horigin⟩ := s.changeDue_iff.mp hdue
  exact Nat.not_lt.mpr horigin (h tl hchange)

theorem State.fallDueChange_applied {p : PendingChange} (hchange : s.tu.change = some p) (hcount : s.tt.rollingCount = 0) :
    s.fallDueChange = { s with tu := { s.tu with change := none } }.applyHouse p.timeline .deferred none := by
  simp only [State.fallDueChange, hchange, if_pos hcount]
  rfl

theorem State.fallDueChange_waits {p : PendingChange} (hchange : s.tu.change = some p) (hcount : 0 < s.tt.rollingCount) :
    s.fallDueChange = { s with tu := { s.tu with change := some { p with onRolling := true } } } := by
  simp only [State.fallDueChange, hchange, if_neg hcount.ne']
  rfl

end fallDue

/-- Settles O20: SET HOUSE by its fields, its origin tick and the rolling count, and the change held on time by whether it is due. -/
theorem setHouseAppliesOrHolds : Obligations.SetHouseAppliesOrHolds := by
  constructor
  case right =>
    exact fun s => ⟨fun tl hchange hdue =>
      ⟨fun hcount => (exec_pendingChangeDue_due hchange hdue).trans (congrArg _ (State.fallDueChange_applied hchange hcount)),
        fun hcount => (exec_pendingChangeDue_due hchange hdue).trans (congrArg _ (State.fallDueChange_waits hchange hcount))⟩,
      exec_pendingChangeDue_notDue⟩
  intro l cls label atCode tick s
  refine ⟨fun htakes hbad => ?refused, fun tl htl => ⟨fun htakes => ?onTick, fun htakes => ?now⟩⟩
  case refused =>
    rw [exec_setHouse htakes, setHouseRequest_badField]
    rcases hbad with hcode | hrate | hflag | ⟨r, hr, hlabel⟩
    · exact .inl (switchOf_unknown hcode)
    · exact .inr (timelineOf_unknownRate hrate)
    · exact .inr (timelineOf_unknownFlag hflag)
    · exact .inr (timelineOf_invalidLabel hr hlabel)
  case onTick =>
    rw [exec_setHouse htakes, setHouseRequest_onTick htl]
    refine ⟨fun hdue hcount => ?_, fun hdue hcount => ?_, fun hahead => ?_⟩
    · rw [State.setHouse_applied (.inr hdue) hcount]
      rfl
    · rw [State.setHouse_heldRolling (.inr hdue) hcount]
      rfl
    · rw [State.setHouse_heldTime (by simpa using hahead)]
      rfl
  case now =>
    rw [exec_setHouse htakes]
    refine ⟨fun habove => ?_, fun hwithin hcount => ?_, fun hwithin hcount => ?_⟩
    · rw [setHouseRequest_nowAbove htl habove]
    · rw [setHouseRequest_now htl hwithin, State.setHouse_applied (.inl rfl) hcount]
      rfl
    · rw [setHouseRequest_now htl hwithin, State.setHouse_heldRolling (.inl rfl) hcount]
      rfl

/-! ### A jam applied (R49, R50, R54) -/

section jam

variable {s : State} {i : LaneId}

/-- R49, R54: rates match where rate code and drop mode both do. -/
theorem State.ratesMatch_iff :
    s.ratesMatch i = true ↔ (s.input i).settings.rate = s.tu.house.rate ∧ (s.input i).settings.drop = s.tu.house.drop := by
  simp [State.ratesMatch]

theorem State.applyJam_leaveDone (tl : Timeline) (cause : HouseCause) (l : LinkId) :
    (s.modLink l LinkPort.leaveDone).applyJam i tl cause = (s.applyJam i tl cause).modLink l LinkPort.leaveDone :=
  State.applyHouse_leaveDone (s.modTu (fun t => { t with change := none })) tl cause (some i) l

/-- R50, R52: the items of a jam's response: the timeline, and the depth of a history that keeps the newest 3. -/
theorem State.applyJam_houseItems (tl : Timeline) (cause : HouseCause) :
    (s.applyJam i tl cause).houseItems = timelineChars tl ++ [char (min 3 (s.tu.history.length + 1))] :=
  congrArg (fun n => timelineChars tl ++ [char n]) (List.length_take (i := 3) (l := s.tu.house :: s.tu.history))

/-! ### JAM (R49, R50) -/

variable {lane : Byte}

theorem jamRequest_leaveDone (l : LinkId) :
    jamRequest lane (s.modLink l LinkPort.leaveDone) =
      ((jamRequest lane s).1.modLink l LinkPort.leaveDone, (jamRequest lane s).2) := by
  unfold jamRequest
  split
  · rfl
  · refine ite_leaveDone rfl (ite_leaveDone (ite_leaveDone rfl ?_) rfl)
    simp only [State.modLink_input, State.applyJam_leaveDone]
    split
    · exact ite_leaveDone rfl rfl
    · rfl

/-- R158: JAM, taken. -/
theorem exec_jam {l : LinkId} (h : s.takes l (.jam l lane) = true) :
    exec (.jam l lane) s = .next ((jamRequest lane s).1.answered l 0x04#8 (jamRequest lane s).2) :=
  congrArg Host.Outcome.next (takeRequest_acts h (Laws.BodyFits.jam l lane rfl rfl) (jamRequest_leaveDone l))

theorem jamRequest_noLane (h : 8 ≤ lane.toNat) : jamRequest lane s = (s, .no .badValue) := by
  rw [jamRequest, laneOf_of_le h]

theorem jamRequest_rolling (hlane : lane.toNat = i.val) (hrolls : 0 < s.tt.rollingCount) : jamRequest lane s = (s, .no .rolling) := by
  simp only [jamRequest, laneOf_of_toNat_eq hlane, if_pos hrolls]

/-- R49: with no take rolling, a lane that is not a TIMECODE lane in TRACKING. -/
theorem jamRequest_notTracking (hlane : lane.toNat = i.val) (hcount : s.tt.rollingCount = 0)
    (h : ¬ ((s.input i).settings.kind = .timecode ∧ (s.input i).state = .tracking)) :
    jamRequest lane s = (s, .no .notTracking) := by
  simp only [jamRequest, laneOf_of_toNat_eq hlane, hcount, Nat.lt_irrefl, if_false, if_neg h]

variable (hlane : lane.toNat = i.val) (hcount : s.tt.rollingCount = 0)
  (htracks : (s.input i).settings.kind = .timecode ∧ (s.input i).state = .tracking)

include hlane hcount htracks

theorem jamRequest_rateMismatch (hrate : s.ratesMatch i = false) : jamRequest lane s = (s, .no .rateMismatch) := by
  simp only [jamRequest, laneOf_of_toNat_eq hlane, hcount, Nat.lt_irrefl, if_false, if_pos htracks, hrate, Bool.not_false, if_true]

theorem jamRequest_goodWord {g : GoodArrival} {f : WordFields} (hgood : (s.input i).good = some g) (hfields : g.fields = some f)
    (hrate : s.ratesMatch i = true) :
    jamRequest lane s =
      if g.tFrame < 0 then (s, .no .range)
      else (s.applyJam i (s.jamTimeline i g.tFrame f.label) .jam,
        .ok (s.applyJam i (s.jamTimeline i g.tFrame f.label) .jam).houseItems) := by
  obtain ⟨arrival, tFrame, fields, frameNo⟩ := g
  obtain rfl : fields = some f := hfields
  simp only [jamRequest, laneOf_of_toNat_eq hlane, hcount, Nat.lt_irrefl, if_false, if_pos htracks, hrate, Bool.not_true,
    Bool.false_eq_true, hgood]

end jam

/-- Settles O21: JAM by the first check that fails, and by the lane's latest good word where none does. -/
theorem jamSetsHouseFromLane : Obligations.JamSetsHouseFromLane := by
  intro l lane s htakes
  rw [exec_jam htakes]
  refine ⟨fun hnone => ?noLane, fun i hlane => ⟨fun hrolls => ?rolling, fun hcount hidle => ?notTracking,
    fun g f hcount hkind hstate hgood hfields => ⟨fun hrate => ?rateMismatch, fun hrate hbefore => ?range, fun hrate hafter => ?jams⟩⟩⟩
  case noLane => rw [jamRequest_noLane hnone]
  case rolling => rw [jamRequest_rolling hlane hrolls]
  case notTracking => rw [jamRequest_notTracking hlane hcount (not_and_or.mpr hidle)]
  case rateMismatch => rw [jamRequest_rateMismatch hlane hcount ⟨hkind, hstate⟩ hrate]
  case range => rw [jamRequest_goodWord hlane hcount ⟨hkind, hstate⟩ hgood hfields hrate, if_pos hbefore]
  case jams =>
    rw [jamRequest_goodWord hlane hcount ⟨hkind, hstate⟩ hgood hfields hrate, if_neg (Int.not_lt.mpr hafter), State.applyJam_houseItems]
    rfl

/-! ### UNJAM (R51) -/

section unjam

variable {s : State}

theorem unjamRequest_rolling (hrolls : 0 < s.tt.rollingCount) : unjamRequest s = (s, .no .rolling) := if_pos hrolls

theorem unjamRequest_empty (hcount : s.tt.rollingCount = 0) (hempty : s.tu.history = []) : unjamRequest s = (s, .no .empty) := by
  simp only [unjamRequest, hcount, Nat.lt_irrefl, if_false, hempty]

/-- R51: UNJAM takes the top of the history, and answers it with the depth that is left. -/
theorem unjamRequest_restores {top : Timeline} {rest : List Timeline} (hcount : s.tt.rollingCount = 0)
    (hhistory : s.tu.history = top :: rest) :
    unjamRequest s =
      ({ s with tu := { s.tu with history := rest } }.installHouse top .unjam none, .ok (timelineChars top ++ [char rest.length])) := by
  simp only [unjamRequest, hcount, Nat.lt_irrefl, if_false, hhistory]
  rfl

theorem unjamRequest_leaveDone (l : LinkId) :
    unjamRequest (s.modLink l LinkPort.leaveDone) = ((unjamRequest s).1.modLink l LinkPort.leaveDone, (unjamRequest s).2) := by
  refine ite_leaveDone rfl ?_
  simp only [State.modLink_tu, State.modTu_modLink, State.installHouse_leaveDone]
  split <;> rfl

/-- R158: UNJAM, taken. -/
theorem exec_unjam {l : LinkId} (h : s.takes l (.unjam l) = true) :
    exec (.unjam l) s = .next ((unjamRequest s).1.answered l 0x05#8 (unjamRequest s).2) :=
  congrArg Host.Outcome.next (takeRequest_acts h (Laws.BodyFits.unjam l rfl rfl) (unjamRequest_leaveDone l))

end unjam

/-! ### SET AUTOJAM (R53) -/

theorem autoJamOf_lane {b : Byte} {i : LaneId} (h : b.toNat = i.val) : autoJamOf b = some (some i) := by
  have hoff : b ≠ 0xFF#8 := by bv_omega
  rw [autoJamOf, if_neg hoff, laneOf_of_toNat_eq h, Option.map_some]

theorem autoJamOf_unknown {b : Byte} (h : 8 ≤ b.toNat) (hoff : b ≠ 0xFF#8) : autoJamOf b = none := by
  rw [autoJamOf, if_neg hoff, laneOf_of_le h, Option.map_none]

section setAutojam

variable {s : State} {l : LinkId} {v : Byte} (h : s.takes l (.setAutojam l v) = true)

include h

theorem exec_setAutojam_stores {setting : Option LaneId} (hv : autoJamOf v = some setting) :
    exec (.setAutojam l v) s = .next ({ s with tu := { s.tu with autoJam := setting } }.answered l 0x06#8 (.ok [v])) := by
  refine congrArg Host.Outcome.next (takeRequest_acts h (Laws.BodyFits.setAutojam l v rfl rfl) ?_)
  simp only [setAutojamRequest, hv]
  rfl

theorem exec_setAutojam_refused (hv : autoJamOf v = none) :
    exec (.setAutojam l v) s = .next (s.answered l 0x06#8 (.no .badValue)) := by
  refine congrArg Host.Outcome.next (takeRequest_acts h (Laws.BodyFits.setAutojam l v rfl rfl) ?_)
  simp only [setAutojamRequest, hv]

end setAutojam

/-! ### The auto-jam trigger (R54) -/

section trigger

variable {s : State} {i : LaneId}

/-- R54: the conditions of a trigger that jams, but for those on the latest good word. -/
def State.AutoJams (s : State) (i : LaneId) : Prop :=
  s.tu.autoJam = some i ∧ (s.input i).settings.kind = .timecode ∧ s.tt.rollingCount = 0 ∧ s.ratesMatch i = true

theorem State.autoJamTrigger_skipped (h : ¬ s.AutoJams i) : s.autoJamTrigger i = s := if_neg h

theorem State.autoJamTrigger_noWord (h : ∀ g f, (s.input i).good = some g → g.fields = some f → g.tFrame < 0) :
    s.autoJamTrigger i = s := by
  unfold State.autoJamTrigger
  dsimp only
  split
  · split
    · exact if_pos (h _ _ ‹_› rfl)
    · rfl
  · rfl

theorem State.autoJamTrigger_jams (hset : s.AutoJams i) {g : GoodArrival} {f : WordFields} (hgood : (s.input i).good = some g)
    (hfields : g.fields = some f) (hafter : 0 ≤ g.tFrame) :
    s.autoJamTrigger i = s.applyJam i (s.jamTimeline i g.tFrame f.label) .autojam := by
  obtain ⟨arrival, tFrame, fields, frameNo⟩ := g
  obtain rfl : fields = some f := hfields
  refine (if_pos hset).trans ?_
  simp only [hgood]
  exact if_neg (Int.not_lt.mpr hafter)

end trigger

/-- Settles O22: UNJAM by the rolling count and the history, SET AUTOJAM by its setting, and a trigger by R54's conditions. -/
theorem unjamAndAutojam : Obligations.UnjamAndAutojam := by
  intro l s
  refine ⟨fun htakes => ?unjam, fun v htakes => ⟨fun hoff => ?off, fun i hlane => exec_setAutojam_stores htakes (autoJamOf_lane hlane),
    fun hlane hoff => exec_setAutojam_refused htakes (autoJamOf_unknown hlane hoff)⟩, fun i => ⟨?jams, ?skipped⟩⟩
  case unjam =>
    rw [exec_unjam htakes]
    refine ⟨fun hrolls => ?_, fun hcount hempty => ?_, fun top rest hcount hhistory => ?_⟩
    · rw [unjamRequest_rolling hrolls]
    · rw [unjamRequest_empty hcount hempty]
    · rw [unjamRequest_restores hcount hhistory]
  case off =>
    subst hoff
    exact exec_setAutojam_stores htakes rfl
  case jams =>
    intro g f hset hkind hcount hrate hdrop hgood hfields hafter
    exact State.autoJamTrigger_jams ⟨hset, hkind, hcount, State.ratesMatch_iff.mpr ⟨hrate, hdrop⟩⟩ hgood hfields hafter
  case skipped =>
    intro h
    by_cases hset : s.AutoJams i
    · obtain ⟨hauto, hkind, hcount, hrates⟩ := hset
      obtain ⟨hrate, hdrop⟩ := State.ratesMatch_iff.mp hrates
      refine State.autoJamTrigger_noWord fun g f hgood hfields => ?_
      rcases h with h | h | h | h | h | h | ⟨g', hg', h | h⟩
      · exact absurd hauto h
      · exact absurd hkind h
      · exact absurd hcount h.ne'
      · exact absurd hrate h
      · exact absurd hdrop h
      · exact nomatch h.symm.trans hgood
      · obtain rfl := Option.some.inj (hg'.symm.trans hgood)
        exact nomatch h.symm.trans hfields
      · obtain rfl := Option.some.inj (hg'.symm.trans hgood)
        exact h
    · exact State.autoJamTrigger_skipped hset

end Sys2Proof.Machine

/-! PROOFS. The house timeline while a take rolls (R47): what each operation leaves of the Timeline Unit and of the rolling count, so that
only the end of rolling or a start-up can change the house timeline. -/

namespace Sys2Proof.Machine

open Sys2Proof

/-! ### The two relations -/

/-- From `s` to `t` the Timeline Unit and the rolling count stand. -/
structure State.HouseStands (s t : State) : Prop where
  tu : t.tu = s.tu
  count : t.tt.rollingCount = s.tt.rollingCount

/-- R46, R47: from `s` to `t` the house timeline stands, or rolling has ended and it is that of the change `s` held. -/
def State.HouseHolds (s t : State) : Prop :=
  t.tu.house = s.tu.house ∨ (t.tt.rollingCount = 0 ∧ ∃ p, s.tu.change = some p ∧ t.tu.house = p.timeline)

namespace State.HouseHolds

variable {s t u : State}

theorem refl (s : State) : s.HouseHolds s := .inl rfl

protected theorem ite {c : Prop} [Decidable c] (h : s.HouseHolds t) (k : s.HouseHolds u) : s.HouseHolds (if c then t else u) := by
  split
  · exact h
  · exact k

theorem ite_fst {β : Type} {c : Prop} [Decidable c] {a b : State × β} (h : s.HouseHolds a.1) (k : s.HouseHolds b.1) :
    s.HouseHolds (if c then a else b).1 := by
  split
  · exact h
  · exact k

/-- What stands after a change leaves it applied. -/
theorem stands (h : s.HouseHolds t) (k : t.HouseStands u) : s.HouseHolds u := by
  unfold State.HouseHolds
  rw [k.tu, k.count]
  exact h

end State.HouseHolds

namespace State.HouseStands

variable {s t u : State}

theorem refl (s : State) : s.HouseStands s := ⟨rfl, rfl⟩

theorem of_eq (htu : t.tu = s.tu := by rfl) (hcount : t.tt.rollingCount = s.tt.rollingCount := by rfl) : s.HouseStands t := ⟨htu, hcount⟩

theorem trans (h : s.HouseStands t) (k : t.HouseStands u) : s.HouseStands u := ⟨k.tu.trans h.tu, k.count.trans h.count⟩

protected theorem ite {c : Prop} [Decidable c] (h : s.HouseStands t) (k : s.HouseStands u) : s.HouseStands (if c then t else u) := by
  split
  · exact h
  · exact k

theorem ite_fst {β : Type} {c : Prop} [Decidable c] {a b : State × β} (h : s.HouseStands a.1) (k : s.HouseStands b.1) :
    s.HouseStands (if c then a else b).1 := by
  split
  · exact h
  · exact k

theorem rolling (h : s.HouseStands t) (hs : 0 < s.tt.rollingCount) : 0 < t.tt.rollingCount := h.count ▸ hs

theorem holds (h : s.HouseStands t) : s.HouseHolds t := .inl (congrArg TimelineUnit.house h.tu)

/-- What stands before a change leaves the held change to be applied. -/
theorem then_holds (h : s.HouseStands t) (k : t.HouseHolds u) : s.HouseHolds u := by
  unfold State.HouseHolds at *
  rwa [h.tu] at k

end State.HouseStands

/-! ### House Clock and slate unit: nothing of the Timeline Unit (R29 to R37, R120, R130) -/

namespace State.HouseStands

variable {s : State} {i : LaneId}

theorem reportReference {old : HouseClock} : s.HouseStands (s.reportReference old) := .ite (refl s) of_eq

theorem takeEdge : s.HouseStands s.takeEdge := by
  refine .ite (refl s) ?_
  dsimp only
  split
  · exact refl s
  all_goals exact trans of_eq reportReference

theorem laneEdge : s.HouseStands (s.laneEdge i) := .ite takeEdge (refl s)

theorem enterHoldover : s.HouseStands s.enterHoldover := by
  unfold State.enterHoldover
  split
  · exact trans of_eq reportReference
  · exact trans of_eq reportReference
  · exact refl s
  · exact refl s

theorem laneSilent : s.HouseStands (s.laneSilent i) := .ite enterHoldover (refl s)

theorem offerMark {t : Take} {m : Mark} : s.HouseStands (s.offerMark t m) := .ite of_eq of_eq

theorem clapOnTake {stamp : Nat} {source : Origin} : s.HouseStands (s.clapOnTake stamp source).1 := by
  unfold State.clapOnTake
  split
  · refine ite_fst ?_ (refl s)
    split
    · exact of_eq
    · exact offerMark
  · exact refl s

theorem fileClap {stamp : Nat} {source : Origin} : s.HouseStands (s.fileClap stamp source).1 := by
  unfold State.fileClap
  dsimp only
  split
  all_goals exact trans clapOnTake of_eq

theorem presentClap {stamp : Nat} {source : Origin} : s.HouseStands (s.presentClap stamp source).1 := by
  have hfile : s.HouseStands ((s.modSu (fun u => { u with lockout := some stamp })).fileClap stamp source).1 := trans of_eq fileClap
  have hindicate (u : State) : u.HouseStands u.indicateClap := of_eq
  have hburst (u : State) : u.HouseStands u.startBurst := .ite of_eq (refl u)
  have hhold (u : State) : u.HouseStands (u.startHold stamp) := .ite of_eq (refl u)
  exact ite_fst (((hfile.trans (hindicate _)).trans (hburst _)).trans (hhold _)) (refl s)

/-! ### Input lanes before the flags of a word (R64 to R70) -/

theorem takeSlip {stamp : Nat} : s.HouseStands (s.takeSlip i stamp) := by
  unfold State.takeSlip
  split
  · exact offerMark.trans of_eq
  · exact refl s

/-- R54: while a take rolls a trigger is skipped. -/
theorem autoJamTrigger (hs : 0 < s.tt.rollingCount) : s.HouseStands (s.autoJamTrigger i) := by
  rw [State.autoJamTrigger_skipped fun ⟨_, _, hcount, _⟩ => hs.ne' hcount]
  exact refl s

theorem enterTracking (hs : 0 < s.tt.rollingCount) {off : Int} : s.HouseStands (s.enterTracking i off) :=
  trans of_eq (autoJamTrigger hs)

theorem slip (hs : 0 < s.tt.rollingCount) {off lock : Int} {stamp : Nat} : s.HouseStands (s.slip i off lock stamp) := by
  have htrigger : s.HouseStands ((s.count i (fun c => { c with slip := bump c.slip })).autoJamTrigger i) := trans of_eq (autoJamTrigger hs)
  exact (htrigger.trans (.ite takeSlip (refl _))).trans of_eq

theorem judgeSlip (hs : 0 < s.tt.rollingCount) {off : Int} {stamp : Nat} : s.HouseStands (s.judgeSlip i off stamp) := by
  unfold State.judgeSlip
  dsimp only
  split
  · exact .ite of_eq (.ite (slip hs) (refl s))
  · exact of_eq

theorem takeClapFlag {clap entry : Bool} {stamp : Nat} : s.HouseStands (s.takeClapFlag i clap entry stamp) := by
  unfold State.takeClapFlag
  dsimp only
  exact trans (.ite presentClap (refl s)) of_eq

end State.HouseStands

/-! ### The end of rolling (R46, R107, R108, R119) -/

namespace State.HouseHolds

variable {s : State} {i : LaneId}

/-- R46: with no take rolling a due change is applied. -/
theorem rollingEnded (hs : s.tt.rollingCount = 0) : s.HouseHolds s.rollingEnded := by
  unfold State.rollingEnded
  split
  · exact .ite (.inr ⟨hs, _, ‹_›, rfl⟩) (refl s)
  · exact refl s

/-- R108: a cut changes the house timeline only where it ends rolling. -/
theorem cutTake {t : Take} {endTick : Nat} {cause : TakeCause} {actor : Origin} : s.HouseHolds (s.cutTake t endTick cause actor) := by
  unfold State.cutTake
  dsimp only
  split
  · rename_i hended
    exact rollingEnded hended
  · exact .inl rfl

theorem autoCutTest {id stop : Nat} : s.HouseHolds (s.autoCutTest id stop i) := by
  unfold State.autoCutTest
  split
  · exact .ite cutTake (refl s)
  · exact refl s

theorem runStop {stamp : Nat} : s.HouseHolds (s.runStop i stamp) := by
  unfold State.runStop
  split
  · exact State.HouseStands.then_holds .of_eq autoCutTest
  · exact refl s

theorem runStart {stamp : Nat} : s.HouseHolds (s.runStart i stamp) := by
  unfold State.runStart
  split
  · exact .inl rfl
  · split
    · exact refl s
    · exact .ite (.inl rfl) (.ite (.inl rfl) (.inl rfl))

theorem takeDropout {stamp : Nat} : s.HouseHolds (s.takeDropout i stamp) := by
  unfold State.takeDropout
  split
  · exact (State.HouseStands.offerMark.trans .of_eq).then_holds autoCutTest
  · exact refl s

/-! ### Input lanes (R57, R60 to R69) -/

theorem takeFlags {g : GoodArrival} {entry : Bool} : s.HouseHolds (s.takeFlags i g entry) := by
  have hrun {run : Bool} {stamp : Nat} : s.HouseHolds (s.takeRunFlag i run entry stamp) := by
    unfold State.takeRunFlag
    dsimp only
    exact stands (.ite (.ite runStart (.ite runStop (refl s))) (refl s)) .of_eq
  unfold State.takeFlags
  split
  · exact hrun.stands .takeClapFlag
  · exact refl s

/-- R64 to R70, R73: a good arrival changes the house timeline only by the run flag that ends rolling. -/
theorem track (hs : 0 < s.tt.rollingCount) {g : GoodArrival} {off : Int} {follows continues : Bool} :
    s.HouseHolds (s.track i g off follows continues) := by
  have hslip {u : State} (h : s.HouseStands u) {stamp : Nat} : s.HouseStands (u.judgeSlip i off stamp) := h.trans (.judgeSlip (h.rolling hs))
  unfold State.track
  dsimp only
  split
  · exact .inl rfl
  · exact .ite ((State.HouseStands.enterTracking hs).then_holds takeFlags) (.inl rfl)
  · exact .ite ((hslip .of_eq).then_holds takeFlags) (.inl rfl)

theorem goodArrival (hs : 0 < s.tt.rollingCount) {g : GoodArrival} {off : Int} {follows : Nat → Bool} :
    s.HouseHolds (s.goodArrival i g off follows) := by
  have hedge {u : State} (h : s.HouseStands u) : s.HouseStands (u.laneEdge i) := h.trans .laneEdge
  exact (hedge .of_eq).then_holds (track ((hedge .of_eq).rolling hs))

theorem errorWord : s.HouseHolds (s.errorWord i) := by
  unfold State.errorWord
  dsimp only
  split
  · exact .inl rfl
  · exact .inl rfl
  · exact .ite (.inl rfl) (.inl rfl)

theorem wordArrives (hs : 0 < s.tt.rollingCount) {w : FrameWord} : s.HouseHolds (s.wordArrives i w) := by
  have hrecord {c : Captured} : s.HouseStands (s.recordArrival i c) := .of_eq
  refine .ite ?_ (refl s)
  dsimp only
  split
  · exact hrecord.then_holds (goodArrival (hrecord.rolling hs))
  all_goals exact hrecord.then_holds errorWord

theorem edgeArrives (hs : 0 < s.tt.rollingCount) : s.HouseHolds (s.edgeArrives i) := by
  have hrecord {c : Captured} : s.HouseStands (s.recordArrival i c) := .of_eq
  exact .ite (hrecord.then_holds (goodArrival (hrecord.rolling hs))) (refl s)

theorem goSilent {cause : LaneCause} : s.HouseHolds (s.goSilent i cause) := by
  have hdropout : s.HouseHolds (s.dropout i) := .ite (takeDropout.stands .of_eq) (refl s)
  exact (hdropout.stands .of_eq).stands .laneSilent

theorem setInputRequest {lane kind cls drop role : Byte} {lead : BitVec 16} {window silence : Byte} {tolerance : BitVec 16} :
    s.HouseHolds (setInputRequest lane kind cls drop role lead window silence tolerance s).1 := by
  unfold Machine.setInputRequest
  split
  · exact ite_fst (refl s) (stands (.ite (refl s) goSilent) .of_eq)
  · exact refl s

theorem readInputRequest {l : LinkId} {lane : Byte} : s.HouseHolds (readInputRequest l lane s).1 := by
  unfold Machine.readInputRequest
  split <;> exact .inl rfl

theorem captureRequest {lane mode flush : Byte} : s.HouseHolds (captureRequest lane mode flush s).1 := by
  unfold Machine.captureRequest
  split <;> exact .inl rfl

theorem peekRequest {lane count : Byte} : s.HouseHolds (peekRequest lane count s).1 := by
  unfold Machine.peekRequest
  split
  · exact refl s
  · exact ite_fst (refl s) (.inl rfl)

/-! ### The requests and the event of the Timeline Unit (R45, R46, R49, R51, R53) -/

/-- R45: while a take rolls an accepted SET HOUSE is held. -/
theorem setHouseRequest (hs : 0 < s.tt.rollingCount) {cls : Byte} {label : LabelField} {atCode : Byte} {tick : BitVec 48} :
    s.HouseHolds (setHouseRequest cls label atCode tick s).1 := by
  have hheld {tl : Timeline} {now : Bool} : s.HouseHolds (s.setHouse tl now).1 := by
    by_cases hdue : now = true ∨ tl.origin ≤ s.tick
    · exact State.setHouse_heldRolling hdue hs ▸ .inl rfl
    · exact State.setHouse_heldTime hdue ▸ .inl rfl
  unfold Machine.setHouseRequest
  split
  · exact ite_fst (refl s) hheld
  · exact refl s

/-- R49: while a take rolls JAM is refused. -/
theorem jamRequest (hs : 0 < s.tt.rollingCount) {lane : Byte} : s.HouseHolds (jamRequest lane s).1 := by
  unfold Machine.jamRequest
  split
  · exact refl s
  · rw [if_pos hs]
    exact refl s

/-- R51: while a take rolls UNJAM is refused. -/
theorem unjamRequest (hs : 0 < s.tt.rollingCount) : s.HouseHolds (unjamRequest s).1 := by
  rw [unjamRequest_rolling hs]
  exact refl s

theorem setAutojamRequest {setting : Byte} : s.HouseHolds (setAutojamRequest setting s).1 := by
  unfold Machine.setAutojamRequest
  split <;> exact .inl rfl

/-- R46: while a take rolls a change that falls due waits on rolling. -/
theorem fallDueChange (hs : 0 < s.tt.rollingCount) : s.HouseHolds s.fallDueChange := by
  cases hchange : s.tu.change with
  | some p => exact State.fallDueChange_waits hchange hs ▸ .inl rfl
  | none =>
    simp only [State.fallDueChange, hchange]
    exact refl s

/-! ### The other requests -/

/-- R55: while a take rolls DEFAULTS is refused. -/
theorem defaultsRequest (hs : 0 < s.tt.rollingCount) {l : LinkId} : s.HouseHolds (defaultsRequest l s).1 := by
  rw [Machine.defaultsRequest, if_pos hs]
  exact refl s

theorem setReferenceRequest {source rateClass loop trimMode : Byte} {trim : BitVec 16} :
    s.HouseHolds (setReferenceRequest source rateClass loop trimMode trim s).1 := by
  unfold Machine.setReferenceRequest
  split
  · exact ite_fst (State.HouseStands.trans .of_eq .reportReference).holds (refl s)
  · exact refl s

theorem setOutputRequest {lane kind : Byte} {fields : OutputFields} : s.HouseHolds (setOutputRequest lane kind fields s).1 := by
  unfold Machine.setOutputRequest
  split <;> exact .inl rfl

theorem armRequest {l : LinkId} {scene shot : List Byte} {number : BitVec 16} {flags count : Byte} {slots : List Byte} :
    s.HouseHolds (armRequest l scene shot number flags count slots s).1 := by
  unfold Machine.armRequest
  split
  · refine ite_fst (refl s) (ite_fst (refl s) (ite_fst (refl s) (ite_fst (refl s) (ite_fst (refl s) ?_))))
    cases s.evicted <;> exact .inl rfl
  · exact refl s

theorem rollRequest {l : LinkId} {id : BitVec 16} : s.HouseHolds (rollRequest l id s).1 := by
  unfold Machine.rollRequest
  split
  · exact refl s
  · exact ite_fst (refl s) (ite_fst (refl s) (ite_fst (refl s) (.inl rfl)))

theorem cutRequest {l : LinkId} {id : BitVec 16} : s.HouseHolds (cutRequest l id s).1 := by
  unfold Machine.cutRequest
  split
  · exact refl s
  · exact ite_fst (refl s) cutTake

theorem closeRequest {l : LinkId} {id : BitVec 16} : s.HouseHolds (closeRequest l id s).1 := by
  unfold Machine.closeRequest
  split
  · exact refl s
  · exact ite_fst (refl s) (.inl rfl)

theorem voidRequest {l : LinkId} {id : BitVec 16} : s.HouseHolds (voidRequest l id s).1 := by
  unfold Machine.voidRequest
  split
  · exact refl s
  · split
    · exact refl s
    · exact .inl rfl
    · exact .inl rfl
    · exact ite_fst (.inl rfl) (refl s)

theorem rateRequest {id : BitVec 16} {rating : Byte} : s.HouseHolds (rateRequest id rating s).1 := by
  unfold Machine.rateRequest
  split
  · exact refl s
  · split <;> exact .inl rfl

theorem markRequest {l : LinkId} {id : BitVec 16} {tickMode : Byte} {tick : BitVec 48} {code : Byte} :
    s.HouseHolds (markRequest l id tickMode tick code s).1 := by
  unfold Machine.markRequest
  split
  · exact refl s
  · split
    · exact refl s
    · exact ite_fst (refl s) (ite_fst (refl s) (ite_fst (refl s) State.HouseStands.offerMark.holds))

theorem collectRequest {l : LinkId} {id : BitVec 16} : s.HouseHolds (collectRequest l id s).1 := by
  unfold Machine.collectRequest
  split
  · exact refl s
  · exact ite_fst (refl s) (.inl rfl)

theorem setSlateRequest {pointer : Byte} {take : BitVec 16} {display lane cycle duty : Byte} {hold : BitVec 24} :
    s.HouseHolds (setSlateRequest pointer take display lane cycle duty hold s).1 := by
  have hpointer {f : PointerField} : s.HouseStands (s.setPointer f) := by cases f <;> exact .of_eq
  unfold Machine.setSlateRequest
  split
  · split
    · exact refl s
    · exact (hpointer.trans .of_eq).holds
  · exact refl s

theorem setFlashRequest {count : Byte} {onTime : BitVec 24} {duty : Byte} : s.HouseHolds (setFlashRequest count onTime duty s).1 := by
  unfold Machine.setFlashRequest
  split <;> exact .inl rfl

theorem readLooseRequest {clear : Byte} : s.HouseHolds (readLooseRequest clear s).1 := by
  unfold Machine.readLooseRequest
  split
  · exact refl s
  · exact .ite (.inl rfl) (refl s)

theorem setLinkRequest {l : LinkId} {link : Byte} {divisor : BitVec 16} : s.HouseHolds (setLinkRequest l link divisor s).1 := by
  unfold Machine.setLinkRequest
  split
  · exact refl s
  · exact ite_fst (refl s) (.inl rfl)

theorem setNoticesRequest {l : LinkId} {classes level timeout : Byte} : s.HouseHolds (setNoticesRequest l classes level timeout s).1 := by
  unfold Machine.setNoticesRequest
  split <;> exact .inl rfl

/-- R158: taking a request does what its block does, out of DONE, and answers. -/
theorem takeRequest (hs : 0 < s.tt.rollingCount) {l : LinkId} {c : Instr} {act : State → State × Reply}
    (h : ∀ u : State, 0 < u.tt.rollingCount → u.HouseHolds (act u).1) : s.HouseHolds (takeRequest l c act s) := by
  have hleave : s.HouseStands (s.modLink l LinkPort.leaveDone) := .of_eq
  unfold Machine.takeRequest
  dsimp only
  refine .ite (stands ?_ .of_eq) (.ite (.inl rfl) (refl s))
  cases judgedFrame (requestFrame c).1 (requestFrame c).2 with
  | request k body => exact hleave.then_holds (h _ hs)
  | refusal k code => exact hleave.holds

/-! ### Every command -/

/-- R179: a character sent leaves the house timeline, or brings start-up. -/
theorem sendChar (s : State) (l : LinkId) : s.HouseHolds (s.sendChar l) ∨ s.sendChar l = s.startUp := by
  unfold State.sendChar
  split
  · dsimp only
    split
    · exact .inr (State.startUp_modLink (s.link l).charSent_pause)
    · exact .inl (.inl rfl)
  · exact .inl (refl s)

/-- R46, R47: while a take rolls every command but a start-up and a character sent holds the house timeline until the end of rolling. -/
theorem exec (c : Instr) {s : State} (hs : 0 < s.tt.rollingCount) (hstart : c ≠ .startUp) (hsent : ∀ l, c ≠ .characterSent l) :
    ∃ t, exec c s = .next t ∧ s.HouseHolds t := by
  cases c with
  | startUp => exact absurd rfl hstart
  | characterSent l => exact absurd rfl (hsent l)
  | status l => exact ⟨_, rfl, takeRequest hs fun _ _ => .inl rfl⟩
  | readClock l | readReference l | readPanel l => exact ⟨_, rfl, takeRequest hs fun u _ => refl u⟩
  | setHouse l r lab at_ tick => exact ⟨_, rfl, takeRequest hs fun _ hu => setHouseRequest hu⟩
  | jam l lane => exact ⟨_, rfl, takeRequest hs fun _ hu => jamRequest hu⟩
  | unjam l => exact ⟨_, rfl, takeRequest hs fun _ hu => unjamRequest hu⟩
  | setAutojam l setting => exact ⟨_, rfl, takeRequest hs fun _ _ => setAutojamRequest⟩
  | setReference l source r lp mode trim => exact ⟨_, rfl, takeRequest hs fun _ _ => setReferenceRequest⟩
  | setInput l lane kind r drop role lead window silence tolerance => exact ⟨_, rfl, takeRequest hs fun _ _ => setInputRequest⟩
  | readInput l lane => exact ⟨_, rfl, takeRequest hs fun _ _ => readInputRequest⟩
  | capture l lane mode flush => exact ⟨_, rfl, takeRequest hs fun _ _ => captureRequest⟩
  | peek l lane count => exact ⟨_, rfl, takeRequest hs fun _ _ => peekRequest⟩
  | setOutput l lane kind fields => exact ⟨_, rfl, takeRequest hs fun _ _ => setOutputRequest⟩
  | readOutput l lane => exact ⟨_, rfl, takeRequest hs fun u _ => (readOutputRequest_state lane u).symm ▸ refl u⟩
  | arm l scene shot number flags count slots => exact ⟨_, rfl, takeRequest hs fun _ _ => armRequest⟩
  | roll l id => exact ⟨_, rfl, takeRequest hs fun _ _ => rollRequest⟩
  | cut l id => exact ⟨_, rfl, takeRequest hs fun _ _ => cutRequest⟩
  | close l id => exact ⟨_, rfl, takeRequest hs fun _ _ => closeRequest⟩
  | void l id => exact ⟨_, rfl, takeRequest hs fun _ _ => voidRequest⟩
  | rate l id rating => exact ⟨_, rfl, takeRequest hs fun _ _ => rateRequest⟩
  | mark l id mode tick code => exact ⟨_, rfl, takeRequest hs fun _ _ => markRequest⟩
  | readTake l id => exact ⟨_, rfl, takeRequest hs fun u _ => (readTakeRequest_state id u).symm ▸ refl u⟩
  | listTakes l start => exact ⟨_, rfl, takeRequest hs fun u _ => (listTakesRequest_state start u).symm ▸ refl u⟩
  | collect l id => exact ⟨_, rfl, takeRequest hs fun _ _ => collectRequest⟩
  | clap l => exact ⟨_, rfl, takeRequest hs fun _ _ => State.HouseStands.presentClap.holds⟩
  | setSlate l pointer id display lane cycle duty hold => exact ⟨_, rfl, takeRequest hs fun _ _ => setSlateRequest⟩
  | setFlash l count onTime duty => exact ⟨_, rfl, takeRequest hs fun _ _ => setFlashRequest⟩
  | readLoose l clear => exact ⟨_, rfl, takeRequest hs fun _ _ => readLooseRequest⟩
  | convert l dir a value b => exact ⟨_, rfl, takeRequest hs fun u _ => refl u⟩
  | setLink l link divisor => exact ⟨_, rfl, takeRequest hs fun _ _ => setLinkRequest⟩
  | setNotices l classes level timeout => exact ⟨_, rfl, takeRequest hs fun _ _ => setNoticesRequest⟩
  | save l => exact ⟨_, rfl, takeRequest hs fun u _ => ite_fst (refl u) (ite_fst (refl u) (.inl rfl))⟩
  | restart l => exact ⟨_, rfl, takeRequest hs fun u _ => ite_fst (refl u) (ite_fst (refl u) (refl u))⟩
  | defaults l => exact ⟨_, rfl, takeRequest hs fun _ hu => defaultsRequest hu⟩
  | referenceEdge => exact ⟨_, rfl, .ite State.HouseStands.takeEdge.holds (refl s)⟩
  | lossExpiry => exact ⟨_, rfl, .ite State.HouseStands.enterHoldover.holds (refl s)⟩
  | staleExpiry => exact ⟨_, rfl, .ite (State.HouseStands.trans .of_eq .reportReference).holds (refl s)⟩
  | pendingChangeDue => exact ⟨_, rfl, .ite (fallDueChange hs) (refl s)⟩
  | wordArrival i w => exact ⟨_, rfl, wordArrives hs⟩
  | pulseEdge i => exact ⟨_, rfl, edgeArrives hs⟩
  | silenceExpiry i => exact ⟨_, rfl, .ite goSilent (refl s)⟩
  | wordComposition o =>
    refine ⟨_, rfl, .ite ?_ (refl s)⟩
    unfold State.composeWord
    dsimp only
    split <;> exact .inl rfl
  | debounceExpiry =>
    refine ⟨_, rfl, ?_⟩
    split
    · exact .ite (State.HouseStands.trans .of_eq .presentClap).holds (refl s)
    · exact refl s
    · exact refl s
  | writeEnd =>
    refine ⟨_, rfl, .ite ?_ (refl s)⟩
    unfold State.endWrite
    split <;> exact .inl rfl
  | houseFull | missingExpiry _ | effectBoundary _ | pulseStart _ | pulseEnd _ | wordclockRise _ | wordclockFall _ | contactClose
  | burstStep | burstEnd | holdEnd => exact ⟨_, rfl, .ite (.inl rfl) (refl s)⟩
  | contactOpen => exact ⟨_, rfl, .inl rfl⟩
  | characterReceived l | lineBreak l | breakEnd l | characterTaken l | silenceTimerExpiry l | assemblerRefusal l | feederCharacter l
  | noticeFed l | pauseAsserted l | pauseReleased l | batchExpiry l => exact ⟨_, rfl, .inl rfl⟩

end State.HouseHolds

/-- What a command can do to the house timeline while a take rolls: hold it until the end of rolling, or be a start-up. -/
theorem exec_houseHolds {c : Instr} {s t : State} (hs : 0 < s.tt.rollingCount) (h : exec c s = .next t) :
    s.HouseHolds t ∨ t = s.startUp := by
  by_cases hstart : c = .startUp
  · subst hstart
    exact .inr (Host.Outcome.next.inj h).symm
  by_cases hsent : ∃ l, c = .characterSent l
  · obtain ⟨l, rfl⟩ := hsent
    obtain rfl : s.sendChar l = t := Host.Outcome.next.inj h
    exact State.HouseHolds.sendChar s l
  · obtain ⟨u, hu, hholds⟩ := State.HouseHolds.exec c hs hstart fun l hl => hsent ⟨l, hl⟩
    exact .inl (Host.Outcome.next.inj (hu.symm.trans h) ▸ hholds)

/-- R47: one step from a state in which a take rolls. -/
theorem step_houseHolds {s t : State} (hs : 0 < s.tt.rollingCount) (h : step s = .next t) :
    s.HouseHolds t ∨ t = { s with pending := t.pending }.startUp := by
  cases hp : s.pending with
  | cons c rest =>
    have hexec : exec c { s with pending := rest } = .next t := by simpa only [step, hp] using h
    have hrest : s.HouseStands { s with pending := rest } := .of_eq
    rcases exec_houseHolds (s := { s with pending := rest }) hs hexec with hholds | rfl
    · exact .inl (hrest.then_holds hholds)
    · exact .inr rfl
  | nil =>
    cases hdue : s.dueCommands with
    | cons c rest =>
      rcases exec_houseHolds hs ((step_idle_due hp hdue).symm.trans h) with hholds | rfl
      · exact .inl hholds
      · exact .inr rfl
    | nil =>
      obtain rfl := Host.Outcome.next.inj ((step_idle_period hp hdue).symm.trans h)
      exact .inl (.inl rfl)

/-- Settles O58: a step holds the house timeline until the end of rolling lets the held change in, or is a start-up, which empties the
take table. -/
theorem houseHoldsWhileRolling : Obligations.HouseHoldsWhileRolling := by
  intro s t hs hstep
  rcases step_houseHolds hs hstep with (hsame | ⟨hended, hchange⟩) | hstart
  · exact ⟨fun _ => hsame, fun hne => absurd hsame hne⟩
  · exact ⟨fun hrolls => absurd hended hrolls.ne', fun _ => ⟨hended, .inl hchange⟩⟩
  · have hended : t.tt.rollingCount = 0 := hstart ▸ rfl
    exact ⟨fun hrolls => absurd hended hrolls.ne', fun _ => ⟨hended, .inr hstart⟩⟩

end Sys2Proof.Machine

/-! PROOFS. The requests of the input lanes (chapter 04): READ INPUT and STATUS with the flags they clear, CAPTURE, PEEK and the admission
of an arrival to the capture queue, and SET INPUT with the lane it clears. -/

namespace Sys2Proof.Machine

open Sys2Proof

/-! ### The flags READ INPUT and STATUS clear (R79, R162) -/

section clears

variable (p : LinkPort)

theorem LinkPort.seen_leaveDone (i : LaneId) : p.leaveDone.seen i = (p.seen i).leaveDone := by
  cases h : p.assembler <;> simp [LinkPort.leaveDone, LinkPort.seen, h]

theorem LinkPort.afterStatus_leaveDone : p.leaveDone.afterStatus = p.afterStatus.leaveDone := by
  cases h : p.assembler <;> simp [LinkPort.leaveDone, LinkPort.afterStatus, h]

/-- R158: what leaving DONE keeps of what STATUS reads. -/
theorem LinkPort.leaveDone_flags : p.leaveDone.gap = p.gap ∧ p.leaveDone.changed = p.changed := by
  obtain ⟨a, ha, -, -⟩ := p.leaveDone_eq
  rw [ha]
  exact ⟨rfl, rfl⟩

end clears

/-- R158: an update of one link that commutes with leaving DONE on a port does so on the state. -/
theorem State.modLink_leaveDone (s : State) (l : LinkId) {f : LinkPort → LinkPort} (h : ∀ p, f p.leaveDone = (f p).leaveDone) :
    (s.modLink l LinkPort.leaveDone).modLink l f = (s.modLink l f).modLink l LinkPort.leaveDone := by
  rw [State.modLink_modLink, State.modLink_modLink, funext h]

/-- R79: a lane's bit in a changed-lane set. -/
theorem getLsbD_laneBit (i j : LaneId) : (1#8 <<< i.val).getLsbD j.val = decide (j = i) := by
  revert i j
  decide

/-- R79: a lane removed from a changed-lane set is the only one removed. -/
theorem getLsbD_without (c : BitVec 8) (i j : LaneId) :
    (c &&& ~~~(1#8 <<< i.val)).getLsbD j.val = (c.getLsbD j.val && !decide (j = i)) := by
  rw [BitVec.getLsbD_and, BitVec.getLsbD_not, getLsbD_laneBit, decide_eq_true j.isLt, Bool.true_and]

/-! ### READ INPUT (R80) and STATUS (R162) -/

section reads

variable {l : LinkId} {lane : Byte} {s : State}

theorem exec_readInput_lane (h : s.takes l (.readInput l lane) = true) {i : LaneId} (hlane : laneOf lane = some i) :
    exec (.readInput l lane) s = .next ((s.modLink l (fun p => p.seen i)).answered l 0x0A#8 (.ok (s.input i).items)) := by
  refine congrArg Host.Outcome.next (takeRequest_acts h (Laws.BodyFits.readInput l lane rfl rfl) ?_)
  simp only [readInputRequest, hlane, State.modLink_input, s.modLink_leaveDone l (f := fun p => p.seen i) fun p => p.seen_leaveDone i]

theorem exec_readInput_noLane (h : s.takes l (.readInput l lane) = true) (hlane : laneOf lane = none) :
    exec (.readInput l lane) s = .next (s.answered l 0x0A#8 (.no .badValue)) := by
  refine congrArg Host.Outcome.next (takeRequest_acts h (Laws.BodyFits.readInput l lane rfl rfl) ?_)
  simp only [readInputRequest, hlane]

theorem State.statusItems_leaveDone : (s.modLink l LinkPort.leaveDone).statusItems l = s.statusItems l := by
  obtain ⟨hgap, hchanged⟩ := (s.link l).leaveDone_flags
  simp only [State.statusItems, State.modLink_link_self, hgap, hchanged]
  rfl

theorem exec_status (h : s.takes l (.status l) = true) :
    exec (.status l) s = .next ((s.modLink l LinkPort.afterStatus).answered l 0x01#8 (.ok (s.statusItems l))) := by
  refine congrArg Host.Outcome.next (takeRequest_acts h (Laws.BodyFits.status l rfl rfl) ?_)
  simp only [statusRequest, State.statusItems_leaveDone, s.modLink_leaveDone l LinkPort.afterStatus_leaveDone]

/-- R162, R184: STATUS's items, flags that share a character spelled out. -/
theorem State.statusItems_eq (l : LinkId) (s : State) :
    s.statusItems l =
      tickChars s.tick ++ [flagChar s.hc.full, s.hc.state.code, flagChar s.hc.limit ||| (flagChar s.hc.stale <<< 1),
        char s.tt.tableCount, char s.tt.openCount, char s.tt.rollingCount, flagChar s.tu.change.isSome, s.store.state.code,
        flagChar s.store.fault ||| (flagChar s.store.write.isSome <<< 1), flagChar (s.link l).gap, (s.link l).changed] := by
  rw [State.statusItems, HouseClock.flags, SettingsStore.flags, flagsChar_two, flagsChar_two]

end reads

/-- R80: READ INPUT's items in order. -/
theorem InLane.items_eq (v : InLane) : v.items =
    [v.settings.kind.code, char v.settings.rate.cls, flagChar v.settings.drop, v.settings.role.code] ++ bytesOf 2 v.settings.lead
      ++ [char v.settings.window, char v.settings.silence] ++ bytesOf 2 v.settings.tolerance
      ++ [v.state.code, char v.seeking] ++ bytesOf 2 v.missed ++ [char v.errorRun]
      ++ presentOr 22 GoodArrival.chars v.good ++ presentOr 7 LatestWord.chars v.latest
      ++ [flagChar v.runLevel ||| (flagChar v.clapLevel <<< 1)] ++ presentOr 5 offsetChars v.lock ++ [flagChar v.rebaseline]
      ++ presentOr 5 offsetChars v.lastOffset ++ [char v.window.count] ++ presentOr 22 PublishedWindow.chars v.published
      ++ bytesOf 2 v.counters.good ++ bytesOf 2 v.counters.error ++ bytesOf 2 v.counters.missing
      ++ bytesOf 2 v.counters.discontinuity ++ bytesOf 2 v.counters.slip
      ++ [v.captureMode.code, char v.captured.length, flagChar v.overrun] := by
  simp only [InLane.items, InSettings.chars, Counters.chars, flagsChar_two, List.append_assoc]

/-- Settles O24: READ INPUT by its lane number, its items, and STATUS. -/
theorem readInputAndStatusClear : Obligations.ReadInputAndStatusClear := by
  refine ⟨fun l lane s htakes => ⟨fun i hlane => ⟨exec_readInput_lane htakes hlane, getLsbD_without _ i⟩,
    fun hlane => exec_readInput_noLane htakes (laneOf_of_le hlane)⟩, fun v => ?items, fun l s htakes => ?status⟩
  case items =>
    have hgood : GoodArrival.chars = fun g => (match g.fields with
        | some f => labelChars f.label f.drop ++ [flagChar f.drop ||| (flagChar f.run <<< 1) ||| (flagChar f.clap <<< 2)]
          ++ bytesOf 3 f.user.toNat
        | none => List.replicate 9 0#8) ++ tickChars g.arrival ++ signedChars 7 g.tFrame := by
      funext ⟨arrival, tFrame, fields, frameNo⟩
      cases fields with
      | none => rfl
      | some f => simp only [GoodArrival.chars, flagsChar_three]
    rw [InLane.items_eq, hgood]
    rfl
  case status =>
    rw [exec_status htakes, State.statusItems_eq]
    rfl

/-! ### The admission of an arrival (R77) -/

section offer

variable {v : InLane} {c : Captured}

theorem InLane.offerCapture_off (hmode : v.captureMode = .off) : v.offerCapture c = v := by
  simp only [InLane.offerCapture, hmode]

theorem InLane.offerCapture_stored (hmode : v.captureMode ≠ .off) (hclear : v.overrun = false) (hroom : v.captured.length < 4) :
    v.offerCapture c =
      { v with captured := v.captured ++ [c], captureMode := if v.captureMode = .one then .off else v.captureMode } := by
  cases hm : v.captureMode with
  | off => exact absurd hm hmode
  | one => simp [InLane.offerCapture, hm, hclear, hroom]
  | continuous => simp [InLane.offerCapture, hm, hclear, hroom]

theorem InLane.offerCapture_overruns (hmode : v.captureMode ≠ .off) (hclear : v.overrun = false) (hfull : 4 ≤ v.captured.length) :
    v.offerCapture c = { v with overrun := true, captureMode := if v.captureMode = .one then .off else v.captureMode } := by
  have hroom : ¬ v.captured.length < 4 := Nat.not_lt.mpr hfull
  cases hm : v.captureMode with
  | off => exact absurd hm hmode
  | one => simp [InLane.offerCapture, hm, hclear, hroom]
  | continuous => simp [InLane.offerCapture, hm, hclear, hroom]

theorem InLane.offerCapture_overrun (hmode : v.captureMode = .continuous) (hset : v.overrun = true) : v.offerCapture c = v := by
  simp only [InLane.offerCapture, hmode, hset, if_true]

end offer

/-! ### CAPTURE (R76) and PEEK (R78) -/

theorem captureModeOf_unknown {b : Byte} (h : 2 < b.toNat) : captureModeOf b = none := by
  obtain ⟨k, hk⟩ := Nat.exists_eq_add_of_le' h
  rw [captureModeOf, hk]
  rfl

section capture

variable {l : LinkId} {lane mode flush : Byte} {s : State} (h : s.takes l (.capture l lane mode flush) = true)

include h

theorem exec_capture_refused (hbad : laneOf lane = none ∨ captureModeOf mode = none) :
    exec (.capture l lane mode flush) s = .next (s.answered l 0x0B#8 (.no .badValue)) := by
  refine congrArg Host.Outcome.next (takeRequest_acts h (Laws.BodyFits.capture l lane mode flush rfl rfl) ?_)
  unfold captureRequest
  split
  · rename_i hlane hmode
    exact hbad.elim (fun hno => nomatch hno.symm.trans hlane) (fun hno => nomatch hno.symm.trans hmode)
  · rfl

theorem exec_capture_sets {i : LaneId} {m : CaptureMode} (hlane : laneOf lane = some i) (hmode : captureModeOf mode = some m) :
    exec (.capture l lane mode flush) s = .next
      ((s.modInput i (fun v => v.setCapture m (flush.getLsbD 0))).answered l 0x0B#8
        (.ok [m.code, char ((s.input i).setCapture m (flush.getLsbD 0)).captured.length])) := by
  refine congrArg Host.Outcome.next (takeRequest_acts h (Laws.BodyFits.capture l lane mode flush rfl rfl) ?_)
  simp only [captureRequest, hlane, hmode, State.modInput_input_self, State.modLink_input, State.modInput_modLink]

end capture

section peek

variable {l : LinkId} {lane count : Byte} {s : State} (h : s.takes l (.peek l lane count) = true)

include h

theorem exec_peek_refused (hbad : laneOf lane = none ∨ count.toNat = 0 ∨ 4 < count.toNat) :
    exec (.peek l lane count) s = .next (s.answered l 0x0C#8 (.no .badValue)) := by
  refine congrArg Host.Outcome.next (takeRequest_acts h (Laws.BodyFits.peek l lane count rfl rfl) ?_)
  unfold peekRequest
  split
  · rfl
  · rename_i hlane
    exact if_pos (hbad.resolve_left fun hno => nomatch hno.symm.trans hlane)

theorem exec_peek_removes {i : LaneId} (hlane : laneOf lane = some i) (hleast : 1 ≤ count.toNat) (hmost : count.toNat ≤ 4) :
    exec (.peek l lane count) s = .next
      ((s.modInput i (fun v => { v with captured := v.captured.drop count.toNat })).answered l 0x0C#8
        (.ok ([char (min count.toNat (s.input i).captured.length)] ++ ((s.input i).captured.take count.toNat).flatMap Captured.chars
          ++ [char ((s.input i).captured.length - count.toNat), (s.input i).captureMode.code, flagChar (s.input i).overrun]))) := by
  have hcount : ¬ (count.toNat = 0 ∨ 4 < count.toNat) := by omega
  refine congrArg Host.Outcome.next (takeRequest_acts h (Laws.BodyFits.peek l lane count rfl rfl) ?_)
  simp only [peekRequest, hlane, if_neg hcount, State.modLink_input, State.modInput_modLink, List.length_take, List.length_drop]
  rfl

end peek

/-- Settles O25: refusals, the four cases of an arrival offered to capture, and CAPTURE and PEEK on a lane. -/
theorem captureAndPeek : Obligations.CaptureAndPeek := by
  refine ⟨fun l lane mode flush count s => ⟨fun htakes hbad => ?captureRefused, fun htakes hlane => ?peekNoLane⟩, fun v c =>
    ⟨InLane.offerCapture_off, InLane.offerCapture_stored, InLane.offerCapture_overruns, InLane.offerCapture_overrun, rfl⟩,
    fun l lane s i hlane => ⟨fun mode flush m htakes hmode => exec_capture_sets htakes (laneOf_of_toNat_eq hlane) hmode,
      fun count htakes => ⟨exec_peek_removes htakes (laneOf_of_toNat_eq hlane), fun hbad => exec_peek_refused htakes (.inr hbad)⟩⟩⟩
  case captureRefused => exact exec_capture_refused htakes (hbad.imp laneOf_of_le captureModeOf_unknown)
  case peekNoLane => exact exec_peek_refused htakes (.inl (laneOf_of_le hlane))

/-! ### The fields of SET INPUT (R57) -/

theorem inKindOf_unknown {b : Byte} (h : 2 < b.toNat) : inKindOf b = none := by
  obtain ⟨k, hk⟩ := Nat.exists_eq_add_of_le' h
  rw [inKindOf, hk]
  rfl

theorem roleOf_unknown {b : Byte} (h : 3 < b.toNat) : roleOf b = none := by
  obtain ⟨k, hk⟩ := Nat.exists_eq_add_of_le' h
  rw [roleOf, hk]
  rfl

theorem rateOf_eq_some {b : Byte} {r : RateCode} (h : rateOf b = some r) : b.toNat = r.cls := by
  unfold rateOf RateCode.ofClass at h
  split at h <;> cases h <;> assumption

/-- R2: the drop mode is for the rate classes 3 and 8 only. -/
theorem dropFits_eq_false {drop cls : Byte} {r : RateCode} (hr : rateOf cls = some r) (hdrop : drop = 1#8) (h3 : cls ≠ 3#8)
    (h8 : cls ≠ 8#8) {d : Bool} (hd : switchOf drop = some d) : dropFits r d = false := by
  have hcls := rateOf_eq_some hr
  obtain rfl : true = d := Option.some.inj ((hdrop ▸ rfl : switchOf drop = some true).symm.trans hd)
  have h29 : r ≠ .f29 := by
    rintro rfl
    exact h3 (BitVec.eq_of_toNat_eq hcls)
  have h59 : r ≠ .f59 := by
    rintro rfl
    exact h8 (BitVec.eq_of_toNat_eq hcls)
  simp [dropFits, RateCode.dropAllowed, h29, h59]

section inSettings

variable {kind cls drop role : Byte} {lead : BitVec 16} {window silence : Byte} {tolerance : BitVec 16}

/-- R57: a field out of its codes, or a drop mode that its rate code does not allow, names no settings. -/
theorem inSettingsOf_unknown
    (h : 2 < kind.toNat ∨ 9 < cls.toNat ∨ 1 < drop.toNat ∨ 3 < role.toNat ∨ (drop = 1#8 ∧ cls ≠ 3#8 ∧ cls ≠ 8#8)) :
    inSettingsOf kind cls drop role lead window silence tolerance = none := by
  unfold inSettingsOf
  split
  · rename_i hk hr hd hro
    rcases h with h | h | h | h | ⟨hdrop, h3, h8⟩
    · exact nomatch (inKindOf_unknown h).symm.trans hk
    · exact nomatch (rateOf_unknown h).symm.trans hr
    · exact nomatch (switchOf_unknown h).symm.trans hd
    · exact nomatch (roleOf_unknown h).symm.trans hro
    · exact if_neg (Bool.eq_false_iff.mp (dropFits_eq_false hr hdrop h3 h8 hd))
  · rfl

theorem inSettingsOf_eq {k : InKind} {r : RateCode} {d : Bool} {ro : Role} (hk : inKindOf kind = some k) (hr : rateOf cls = some r)
    (hd : switchOf drop = some d) (hro : roleOf role = some ro) (hfit : dropFits r d = true) :
    inSettingsOf kind cls drop role lead window silence tolerance =
      some ⟨k, r, d, ro, lead.toNat, max 1 window.toNat, max 1 silence.toNat, max 1 tolerance.toNat⟩ := by
  simp only [inSettingsOf, hk, hr, hd, hro, hfit, if_true]

end inSettings

/-! ### Going SILENT commutes with leaving DONE (R69, R108, R117) -/

theorem State.ite_modLink (l : LinkId) {c : Prop} [Decidable c] {a b a' b' : State} {f : LinkPort → LinkPort} (ha : a' = a.modLink l f)
    (hb : b' = b.modLink l f) : (if c then a' else b') = (if c then a else b).modLink l f := by
  split
  · exact ha
  · exact hb

section leaveDone

variable (s : State) (l : LinkId) (i : LaneId)

theorem State.markChanged_leaveDone : (s.modLink l LinkPort.leaveDone).markChanged i = (s.markChanged i).modLink l LinkPort.leaveDone := by
  have h (p : LinkPort) : { p.leaveDone with changed := p.leaveDone.changed ||| (1#8 <<< i.val) } =
      ({ p with changed := p.changed ||| (1#8 <<< i.val) } : LinkPort).leaveDone := by
    cases hp : p.assembler <;> simp [LinkPort.leaveDone, hp]
  simp [State.markChanged, State.modLink, State.link, h]

theorem State.applyPending_leaveDone (p : PendingChange) :
    (s.modLink l LinkPort.leaveDone).applyPending p = (s.applyPending p).modLink l LinkPort.leaveDone :=
  State.applyHouse_leaveDone (s.modTu (fun t => { t with change := none })) p.timeline .deferred none l

theorem State.rollingEnded_leaveDone :
    (s.modLink l LinkPort.leaveDone).rollingEnded = s.rollingEnded.modLink l LinkPort.leaveDone := by
  simp only [State.rollingEnded, State.modLink_tu, State.modLink_tick, State.applyPending_leaveDone]
  split
  · exact State.ite_modLink l rfl rfl
  · rfl

theorem State.cutTake_leaveDone (t : Take) (endTick : Nat) (cause : TakeCause) (actor : Origin) :
    (s.modLink l LinkPort.leaveDone).cutTake t endTick cause actor = (s.cutTake t endTick cause actor).modLink l LinkPort.leaveDone := by
  simp only [State.cutTake, State.modTake_modLink, State.modTt_modLink, State.post_leaveDone, State.modLink_tt,
    State.rollingEnded_leaveDone]
  exact State.ite_modLink l rfl rfl

theorem State.autoCutTest_leaveDone (id stop : Nat) :
    (s.modLink l LinkPort.leaveDone).autoCutTest id stop i = (s.autoCutTest id stop i).modLink l LinkPort.leaveDone := by
  have htake : (s.modLink l LinkPort.leaveDone).take? id = s.take? id := rfl
  simp only [State.autoCutTest, htake, State.cutTake_leaveDone]
  split
  · exact State.ite_modLink l rfl rfl
  · rfl

theorem State.offerMark_leaveDone (t : Take) (m : Mark) :
    (s.modLink l LinkPort.leaveDone).offerMark t m = (s.offerMark t m).modLink l LinkPort.leaveDone := by
  simp only [State.offerMark, State.modTake_modLink, State.post_leaveDone]
  exact State.ite_modLink l rfl rfl

theorem State.takeDropout_leaveDone (stamp : Nat) :
    (s.modLink l LinkPort.leaveDone).takeDropout i stamp = (s.takeDropout i stamp).modLink l LinkPort.leaveDone := by
  have htake : (s.modLink l LinkPort.leaveDone).rollingTakeOf i = s.rollingTakeOf i := rfl
  simp only [State.takeDropout, htake, State.offerMark_leaveDone, State.modTake_modLink, State.autoCutTest_leaveDone]
  split <;> rfl

theorem State.dropout_leaveDone : (s.modLink l LinkPort.leaveDone).dropout i = (s.dropout i).modLink l LinkPort.leaveDone := by
  simp only [State.dropout, State.modLink_input, State.modLink_tick, State.takeDropout_leaveDone, State.post_leaveDone,
    State.markChanged_leaveDone]
  exact State.ite_modLink l rfl rfl

theorem State.enterHoldover_leaveDone :
    (s.modLink l LinkPort.leaveDone).enterHoldover = s.enterHoldover.modLink l LinkPort.leaveDone := by
  simp only [State.enterHoldover, State.modLink_hc, State.modHc_modLink, State.reportReference_leaveDone]
  split <;> rfl

theorem State.laneSilent_leaveDone : (s.modLink l LinkPort.leaveDone).laneSilent i = (s.laneSilent i).modLink l LinkPort.leaveDone := by
  simp only [State.laneSilent, State.modLink_hc, State.enterHoldover_leaveDone]
  exact State.ite_modLink l rfl rfl

theorem State.goSilent_leaveDone (cause : LaneCause) :
    (s.modLink l LinkPort.leaveDone).goSilent i cause = (s.goSilent i cause).modLink l LinkPort.leaveDone := by
  simp only [State.goSilent, State.reportLane, State.modLink_input, State.dropout_leaveDone, State.modInput_modLink, State.post_leaveDone,
    State.markChanged_leaveDone, State.laneSilent_leaveDone]

theorem State.applyInput_leaveDone (set : InSettings) :
    (s.modLink l LinkPort.leaveDone).applyInput i set = (s.applyInput i set).modLink l LinkPort.leaveDone := by
  simp only [State.applyInput, State.modLink_input, State.goSilent_leaveDone]
  split <;> rfl

end leaveDone

/-! ### SET INPUT (R57, R58) -/

section setInput

variable {l : LinkId} {lane kind cls drop role : Byte} {lead : BitVec 16} {window silence : Byte} {tolerance : BitVec 16} {s : State}
  (h : s.takes l (.setInput l lane kind cls drop role lead window silence tolerance) = true)

include h

theorem exec_setInput_badValue (hbad : laneOf lane = none ∨ inSettingsOf kind cls drop role lead window silence tolerance = none) :
    exec (.setInput l lane kind cls drop role lead window silence tolerance) s = .next (s.answered l 0x09#8 (.no .badValue)) := by
  refine congrArg Host.Outcome.next
    (takeRequest_acts h (Laws.BodyFits.setInput l lane kind cls drop role lead window silence tolerance rfl rfl) ?_)
  unfold setInputRequest
  split
  · rename_i hlane hset
    exact hbad.elim (fun hno => nomatch hno.symm.trans hlane) (fun hno => nomatch hno.symm.trans hset)
  · rfl

variable {i : LaneId} {set : InSettings} (hlane : laneOf lane = some i)
  (hset : inSettingsOf kind cls drop role lead window silence tolerance = some set)

include hlane hset

theorem exec_setInput_laneBusy (hrolls : (s.rollingTakeOf i).isSome = true) (hchanges : (s.input i).settings.changesLane set = true) :
    exec (.setInput l lane kind cls drop role lead window silence tolerance) s = .next (s.answered l 0x09#8 (.no .laneBusy)) := by
  refine congrArg Host.Outcome.next
    (takeRequest_acts h (Laws.BodyFits.setInput l lane kind cls drop role lead window silence tolerance rfl rfl) ?_)
  simp only [setInputRequest, hlane, hset]
  exact if_pos ⟨hrolls, hchanges⟩

theorem exec_setInput_applies (hfree : (s.rollingTakeOf i).isSome = false ∨ (s.input i).settings.changesLane set = false) :
    exec (.setInput l lane kind cls drop role lead window silence tolerance) s =
      .next ((s.applyInput i set).answered l 0x09#8 (.ok set.chars)) := by
  have hnot : ¬ ((s.rollingTakeOf i).isSome = true ∧ (s.input i).settings.changesLane set = true) := fun ⟨hrolls, hchanges⟩ =>
    hfree.elim (fun h => nomatch h.symm.trans hrolls) (fun h => nomatch h.symm.trans hchanges)
  refine congrArg Host.Outcome.next
    (takeRequest_acts h (Laws.BodyFits.setInput l lane kind cls drop role lead window silence tolerance rfl rfl) ?_)
  simp only [setInputRequest, hlane, hset, State.applyInput_leaveDone]
  exact if_neg hnot

end setInput

/-- Settles O23: SET INPUT by the first check that fails, the settings its fields name, and the lane cleared under them. -/
theorem setInputClearsLane : Obligations.SetInputClearsLane := by
  intro l lane kind cls drop role lead window silence tolerance s htakes
  refine ⟨fun hbad => exec_setInput_badValue htakes (hbad.imp laneOf_of_le inSettingsOf_unknown),
    fun k r d ro hk hr hd hro hfit => inSettingsOf_eq hk hr hd hro hfit,
    fun i set hlane hset => ⟨fun hrolls hchanges => ?busy, fun hfree => ?applied, rfl⟩⟩
  case busy => exact exec_setInput_laneBusy htakes (laneOf_of_toNat_eq hlane) hset hrolls hchanges
  case applied => exact exec_setInput_applies htakes (laneOf_of_toNat_eq hlane) hset hfree

end Sys2Proof.Machine

/-! PROOFS. What the lanes hand to the other blocks (R54, R73, R74, R115 to R119) and what comes back of it to the input lanes, so that
whatever arrives on one lane leaves the others and the store as they were; and the error words (R60, R64, R66, R67). -/

namespace Sys2Proof.Machine

open Sys2Proof

/-! ### The relation, and the updates that reach no lane -/

/-- From `s` to `t` the store stands, an input lane is at most re-derived for a house change (R47), and no link loses a changed lane. -/
structure State.SparesLanes (s t : State) : Prop where
  store : t.store = s.store
  lane : ∀ j, ∃ e r win, t.input j = { s.input j with expected := e, rebaseline := r, window := win }
  changed : ∀ (k : LinkId) (j : LaneId), (s.link k).changed.getLsbD j.val = true → (t.link k).changed.getLsbD j.val = true

namespace State.SparesLanes

variable {s t u : State}

/-- An update that leaves the store, the input lanes and the changed-lane sets as they were. -/
theorem of_eq (hstore : t.store = s.store := by rfl) (hinputs : t.inputs = s.inputs := by rfl)
    (hchanged : ∀ k, (t.link k).changed = (s.link k).changed := by exact fun _ => rfl) : s.SparesLanes t :=
  ⟨hstore, fun j => ⟨_, _, _, congrArg (Eight.get · j) hinputs⟩, fun k _ h => (hchanged k).symm ▸ h⟩

theorem refl (s : State) : s.SparesLanes s := of_eq

theorem trans (h : s.SparesLanes t) (k : t.SparesLanes u) : s.SparesLanes u := by
  refine ⟨k.store.trans h.store, fun j => ?_, fun p j hj => k.changed p j (h.changed p j hj)⟩
  obtain ⟨e, r, win, ht⟩ := h.lane j
  obtain ⟨e', r', win', hu⟩ := k.lane j
  exact ⟨e', r', win', by rw [hu, ht]⟩

protected theorem ite {c : Prop} [Decidable c] (h : s.SparesLanes t) (k : s.SparesLanes u) : s.SparesLanes (if c then t else u) := by
  split
  · exact h
  · exact k

/-- What a block answers beside the next state has no part in the relation. -/
theorem ite_fst {β : Type} {c : Prop} [Decidable c] {a b : State × β} (h : s.SparesLanes a.1) (k : s.SparesLanes b.1) :
    s.SparesLanes (if c then a else b).1 := by
  split
  · exact h
  · exact k

/-- R166: a hand-over has no part in the changed-lane sets. -/
theorem post {b : NoticeBody} : s.SparesLanes (s.post b) := by
  refine of_eq rfl rfl fun k => ?_
  obtain ⟨-, -, -, -, -, -, -, -, hchanged, -⟩ := (s.link k).offer_keeps ⟨b, s.tick⟩ s.tick
  rw [State.post_link, hchanged]

/-- R79: a lane that enters the changed-lane sets puts none out. -/
theorem markChanged {i : LaneId} : s.SparesLanes (s.markChanged i) := by
  refine ⟨rfl, fun j => ⟨_, _, _, rfl⟩, fun k j h => ?_⟩
  rw [State.markChanged_link, BitVec.getLsbD_or, h, Bool.true_or]

/-! ### House Clock and house timeline (R27, R47, R54) -/

theorem reportReference {old : HouseClock} : s.SparesLanes (s.reportReference old) := .ite (refl s) post

theorem takeEdge : s.SparesLanes s.takeEdge := by
  refine .ite (refl s) ?_
  dsimp only
  split
  · exact refl s
  all_goals exact trans of_eq reportReference

theorem laneEdge {i : LaneId} : s.SparesLanes (s.laneEdge i) := .ite takeEdge (refl s)

/-- R47: a house change re-derives every input lane. -/
theorem installHouse {tl : Timeline} {cause : HouseCause} {lane : Option LaneId} : s.SparesLanes (s.installHouse tl cause lane) := by
  refine ⟨rfl, fun j => ⟨_, _, _, s.installHouse_input tl cause lane j⟩, fun k j h => ?_⟩
  obtain ⟨-, -, -, -, -, -, -, -, hchanged, -⟩ :=
    (s.link k).offer_keeps ⟨.houseChanged cause tl s.tu.history.length lane, s.tick⟩ s.tick
  rwa [State.installHouse_link, hchanged]

theorem applyHouse {tl : Timeline} {cause : HouseCause} {lane : Option LaneId} : s.SparesLanes (s.applyHouse tl cause lane) :=
  trans of_eq installHouse

theorem autoJamTrigger {i : LaneId} : s.SparesLanes (s.autoJamTrigger i) := by
  refine .ite ?_ (refl s)
  split
  · exact .ite (refl s) (trans of_eq applyHouse)
  · exact refl s

/-! ### Take Table (R108, R112, R115 to R119) -/

theorem rollingEnded : s.SparesLanes s.rollingEnded := by
  unfold State.rollingEnded
  split
  · exact .ite (trans of_eq applyHouse) (refl s)
  · exact refl s

theorem cutTake {k : Take} {endTick : Nat} {cause : TakeCause} {actor : Origin} : s.SparesLanes (s.cutTake k endTick cause actor) := by
  have hcut (x : State) (b : NoticeBody) (h : s.SparesLanes x) : s.SparesLanes (x.post b) := h.trans post
  exact .ite ((hcut _ _ of_eq).trans rollingEnded) (hcut _ _ of_eq)

theorem autoCutTest {id stop : Nat} {i : LaneId} : s.SparesLanes (s.autoCutTest id stop i) := by
  unfold State.autoCutTest
  split
  · exact .ite cutTake (refl s)
  · exact refl s

theorem offerMark {k : Take} {m : Mark} : s.SparesLanes (s.offerMark k m) := .ite (trans of_eq post) of_eq

theorem runStart {i : LaneId} {stamp : Nat} : s.SparesLanes (s.runStart i stamp) := by
  unfold State.runStart
  split
  · exact of_eq
  · split
    · exact refl s
    · exact .ite post (.ite post (trans of_eq post))

theorem runStop {i : LaneId} {stamp : Nat} : s.SparesLanes (s.runStop i stamp) := by
  unfold State.runStop
  split
  · exact trans of_eq autoCutTest
  · exact refl s

theorem takeSlip {i : LaneId} {stamp : Nat} : s.SparesLanes (s.takeSlip i stamp) := by
  unfold State.takeSlip
  split
  · exact offerMark.trans of_eq
  · exact refl s

/-! ### Claps (R120, R130) -/

theorem clapOnTake {stamp : Nat} {source : Origin} : s.SparesLanes (s.clapOnTake stamp source).1 := by
  unfold State.clapOnTake
  split
  · refine ite_fst ?_ (refl s)
    split
    · exact of_eq
    · exact offerMark
  · exact refl s

theorem fileClap {stamp : Nat} {source : Origin} : s.SparesLanes (s.fileClap stamp source).1 := by
  unfold State.fileClap
  dsimp only
  split
  · exact clapOnTake.trans post
  · exact clapOnTake.trans post
  · exact clapOnTake.trans (trans of_eq post)

theorem presentClap {stamp : Nat} {source : Origin} : s.SparesLanes (s.presentClap stamp source).1 := by
  have hfile : s.SparesLanes ((s.modSu (fun u => { u with lockout := some stamp })).fileClap stamp source).1 := trans of_eq fileClap
  have hindicate (u : State) : u.SparesLanes u.indicateClap := of_eq
  have hburst (u : State) : u.SparesLanes u.startBurst := .ite of_eq (refl u)
  have hhold (u : State) : u.SparesLanes (u.startHold stamp) := .ite of_eq (refl u)
  exact ite_fst (((hfile.trans (hindicate _)).trans (hburst _)).trans (hhold _)) (refl s)

end State.SparesLanes

/-! ### A SLIP handed on (R70) -/

section slip

variable (s : State) (i : LaneId) (stamp : Nat)

/-- R70: a SLIP counted, with the auto-jam triggered and the Take Table told where the lane's role is CAMERA or SOUND. -/
def State.slipHandedOn : State :=
  let x := (s.count i (fun c => { c with slip := bump c.slip })).autoJamTrigger i
  if (s.input i).settings.role.isUnit then x.takeSlip i stamp else x

/-- R70: the blocks that a SLIP is handed to leave the counter it has raised. -/
theorem State.slipHandedOn_slip : ((s.slipHandedOn i stamp).input i).counters.slip = bump (s.input i).counters.slip := by
  have hspares : (s.count i (fun c => { c with slip := bump c.slip })).SparesLanes (s.slipHandedOn i stamp) :=
    .ite (State.SparesLanes.autoJamTrigger.trans .takeSlip) .autoJamTrigger
  obtain ⟨e, r, win, hlane⟩ := hspares.lane i
  rw [hlane, State.count, State.modInput_input_self]

/-- R70: a SLIP is handed on, reported with the counter it has raised, and its offset becomes the lock offset. -/
theorem State.slip_eq (off lock : Int) :
    s.slip i off lock stamp =
      (((s.slipHandedOn i stamp).post (.slip i stamp off lock (bump (s.input i).counters.slip))).markChanged i).modInput i
        (fun v => { v with lock := some off }) := by
  have hrole : (((s.count i (fun c => { c with slip := bump c.slip })).autoJamTrigger i).input i).settings.role =
      (s.input i).settings.role := by
    obtain ⟨e, r, win, hjam⟩ := State.SparesLanes.autoJamTrigger.lane i
    rw [hjam, State.count, State.modInput_input_self]
  rw [← s.slipHandedOn_slip i stamp, State.slip]
  simp only [hrole]
  rfl

end slip

/-! ### The levels take the flags (R73, R74) -/

section flags

variable (s : State) (i : LaneId) (entry : Bool) (stamp : Nat)

theorem State.takeRunFlag_eq (run : Bool) :
    ∃ u, s.SparesLanes u ∧ s.takeRunFlag i run entry stamp = u.modInput i (fun v => { v with runLevel := run }) :=
  ⟨_, .ite (.ite .runStart (.ite .runStop (.refl s))) (.refl s), rfl⟩

theorem State.takeClapFlag_eq (clap : Bool) :
    ∃ u, s.SparesLanes u ∧ s.takeClapFlag i clap entry stamp = u.modInput i (fun v => { v with clapLevel := clap }) :=
  ⟨_, .ite .presentClap (.refl s), rfl⟩

/-- R73, R74: the flags of a word reach the other blocks, which spare the lanes, and the two levels of its own lane; an edge has none. -/
theorem State.takeFlags_cases (g : GoodArrival) :
    s.takeFlags i g entry = s ∨
    ∃ u x run clap, s.SparesLanes u ∧ (u.modInput i (fun v => { v with runLevel := run })).SparesLanes x ∧
      s.takeFlags i g entry = x.modInput i (fun v => { v with clapLevel := clap }) := by
  unfold State.takeFlags
  split
  · rename_i f hf
    obtain ⟨u, hu, hrun⟩ := s.takeRunFlag_eq i entry (stampOf g.tFrame) f.run
    obtain ⟨x, hx, hclap⟩ := (s.takeRunFlag i f.run entry (stampOf g.tFrame)).takeClapFlag_eq i entry (stampOf g.tFrame) f.clap
    exact .inr ⟨u, x, f.run, f.clap, hu, hrun ▸ hx, hclap⟩
  · exact .inl rfl

/-- R73, R74: what the flags of a word leave of its own lane. -/
theorem State.takeFlags_lane (g : GoodArrival) :
    ∃ e r win run clap, (s.takeFlags i g entry).input i =
      { s.input i with expected := e, rebaseline := r, window := win, runLevel := run, clapLevel := clap } := by
  rcases s.takeFlags_cases i entry g with h | ⟨u, x, run, clap, hu, hx, h⟩
  · rw [h]
    exact ⟨_, _, _, _, _, rfl⟩
  · obtain ⟨e, r, win, hsu⟩ := hu.lane i
    obtain ⟨e', r', win', hux⟩ := hx.lane i
    rw [h, State.modInput_input_self, hux, State.modInput_input_self, hsu]
    exact ⟨_, _, _, _, _, rfl⟩

/-- R79: the flags of a word put no lane out of a changed-lane set. -/
theorem State.takeFlags_changed (g : GoodArrival) {k : LinkId} {j : LaneId} (hj : (s.link k).changed.getLsbD j.val = true) :
    ((s.takeFlags i g entry).link k).changed.getLsbD j.val = true := by
  rcases s.takeFlags_cases i entry g with h | ⟨u, x, run, clap, hu, hx, h⟩
  · rwa [h]
  · rw [h]
    exact hx.changed k j (hu.changed k j hj)

end flags

/-! ### What an arrival on one lane leaves of the rest -/

/-- From `s` to `t` the store stands and every input lane but `i` is at most re-derived. -/
structure State.KeepsToLane (s t : State) (i : LaneId) : Prop where
  store : t.store = s.store
  others : ∀ j, j ≠ i → ∃ e r win, t.input j = { s.input j with expected := e, rebaseline := r, window := win }

theorem State.SparesLanes.keepsToLane {s t : State} (h : s.SparesLanes t) (i : LaneId) : s.KeepsToLane t i :=
  ⟨h.store, fun j _ => h.lane j⟩

namespace State.KeepsToLane

variable {s t u : State} {i : LaneId}

theorem refl (s : State) : s.KeepsToLane s i := (State.SparesLanes.refl s).keepsToLane i

theorem trans (h : s.KeepsToLane t i) (k : t.KeepsToLane u i) : s.KeepsToLane u i := by
  refine ⟨k.store.trans h.store, fun j hj => ?_⟩
  obtain ⟨e, r, win, ht⟩ := h.others j hj
  obtain ⟨e', r', win', hu⟩ := k.others j hj
  exact ⟨e', r', win', by rw [hu, ht]⟩

theorem spares (h : s.KeepsToLane t i) (k : t.SparesLanes u) : s.KeepsToLane u i := h.trans (k.keepsToLane i)

protected theorem ite {c : Prop} [Decidable c] (h : s.KeepsToLane t i) (k : s.KeepsToLane u i) : s.KeepsToLane (if c then t else u) i := by
  split
  · exact h
  · exact k

theorem modInput {f : InLane → InLane} : s.KeepsToLane (s.modInput i f) i :=
  ⟨rfl, fun _ hj => ⟨_, _, _, s.modInput_input_of_ne i f hj⟩⟩

theorem reportLane {prev now : Tracking} {cause : LaneCause} {lock : Option Int} : s.KeepsToLane (s.reportLane i prev now cause lock) i :=
  (State.SparesLanes.post.trans .markChanged).keepsToLane i

theorem leaveTracking {seeking : Nat} {cause : LaneCause} : s.KeepsToLane (s.leaveTracking i seeking cause) i := modInput.trans reportLane

theorem enterTracking {off : Int} : s.KeepsToLane (s.enterTracking i off) i := (modInput.trans reportLane).spares .autoJamTrigger

theorem slip {off lock : Int} {stamp : Nat} : s.KeepsToLane (s.slip i off lock stamp) i := by
  rw [State.slip_eq]
  have hcount : s.KeepsToLane (s.count i (fun c => { c with slip := bump c.slip })) i := modInput
  have hhanded : s.KeepsToLane (s.slipHandedOn i stamp) i :=
    .ite ((hcount.spares .autoJamTrigger).spares .takeSlip) (hcount.spares .autoJamTrigger)
  exact ((hhanded.spares .post).spares .markChanged).trans modInput

theorem judgeSlip {off : Int} {stamp : Nat} : s.KeepsToLane (s.judgeSlip i off stamp) i := by
  unfold State.judgeSlip
  dsimp only
  split
  · exact .ite modInput (.ite slip (refl s))
  · exact modInput

theorem takeFlags {g : GoodArrival} {entry : Bool} : s.KeepsToLane (s.takeFlags i g entry) i := by
  rcases s.takeFlags_cases i entry g with h | ⟨u, x, run, clap, hu, hx, h⟩
  · rw [h]
    exact refl s
  · rw [h]
    exact (((hu.keepsToLane i).trans modInput).spares hx).trans modInput

theorem track {g : GoodArrival} {off : Int} {follows continues : Bool} : s.KeepsToLane (s.track i g off follows continues) i := by
  unfold State.track
  dsimp only
  split
  · exact modInput.trans reportLane
  · exact .ite (enterTracking.trans takeFlags) modInput
  · exact .ite ((modInput.trans judgeSlip).trans takeFlags) (modInput.trans leaveTracking)

theorem goodArrival {g : GoodArrival} {off : Int} {follows : Nat → Bool} : s.KeepsToLane (s.goodArrival i g off follows) i :=
  ((modInput.trans modInput).spares .laneEdge).trans track

theorem errorWord : s.KeepsToLane (s.errorWord i) i := by
  unfold State.errorWord
  dsimp only
  split
  · exact modInput
  · exact modInput.trans modInput
  · exact .ite (modInput.trans leaveTracking) (modInput.trans modInput)

theorem wordArrives {w : FrameWord} : s.KeepsToLane (s.wordArrives i w) i := by
  have hrecord {c : Captured} : s.KeepsToLane (s.recordArrival i c) i := modInput
  refine .ite ?_ (refl s)
  dsimp only
  split
  · exact hrecord.trans goodArrival
  all_goals exact hrecord.trans errorWord

end State.KeepsToLane

/-! ### What arrives on a lane (R60) -/

section word

variable {s : State} {i : LaneId} {w : FrameWord}

theorem State.wordArrives_ignored (h : (s.input i).settings.kind ≠ .timecode ∨ wordSync w ≠ syncPattern) : s.wordArrives i w = s :=
  if_neg fun ⟨hkind, hsync⟩ => h.elim (· hkind) (· hsync)

/-- R60: an error word is offered to capture, recorded as the latest word, and taken as an error. -/
theorem State.wordArrives_error (hkind : (s.input i).settings.kind = .timecode) (hsync : wordSync w = syncPattern)
    (hbad : judgeWord (s.input i).settings w ≠ .good) :
    s.wordArrives i w = (s.recordArrival i ⟨s.tick, judgeWord (s.input i).settings w, wordBits w, wordCheck w⟩).errorWord i := by
  refine (if_pos ⟨hkind, hsync⟩).trans ?_
  dsimp only
  split
  · exact absurd ‹_› hbad
  all_goals rfl

end word

/-! ### Error words (R64, R66, R67) -/

section error

variable {s : State} {i : LaneId}

/-- R72, R77: what a lane holds once an error word has been recorded and counted. -/
def InLane.afterError (v : InLane) (c : Captured) : InLane :=
  { v.offerCapture c with latest := some ⟨c.tag, c.arrival⟩, counters := { v.counters with error := bump v.counters.error } }

/-- R60, R72, R77: an error word recorded and counted is one update of the lane. -/
theorem State.recordArrival_countError (c : Captured) :
    (s.recordArrival i c).count i (fun k => { k with error := bump k.error }) = s.modInput i (fun v => v.afterError c) := by
  rw [State.recordArrival, State.count, State.modInput_modInput]
  refine s.modInput_congr i ?_
  rw [InLane.afterError, InLane.offerCapture_keeps]

/-- R77: capture has no part in the tracking. -/
theorem State.recordArrival_input (c : Captured) :
    ((s.recordArrival i c).input i).state = (s.input i).state ∧ ((s.recordArrival i c).input i).errorRun = (s.input i).errorRun := by
  rw [State.recordArrival, State.modInput_input_self, InLane.offerCapture_keeps]
  exact ⟨rfl, rfl⟩

variable {c : Captured}

theorem State.errorWord_silent (h : (s.input i).state = .silent) :
    (s.recordArrival i c).errorWord i = s.modInput i (fun v => v.afterError c) := by
  obtain ⟨hstate, -⟩ := State.recordArrival_input (s := s) (i := i) c
  simp only [State.errorWord, hstate, h, State.recordArrival_countError]

theorem State.errorWord_seeking (h : (s.input i).state = .seeking) :
    (s.recordArrival i c).errorWord i = s.modInput i (fun v => { v.afterError c with seeking := 0 }) := by
  obtain ⟨hstate, -⟩ := State.recordArrival_input (s := s) (i := i) c
  simp only [State.errorWord, hstate, h, State.recordArrival_countError, State.modInput_modInput]

theorem State.errorWord_missed (h : (s.input i).state = .tracking) (hrun : (s.input i).errorRun < 2) :
    (s.recordArrival i c).errorWord i =
      s.modInput i (fun v => { v.afterError c with missed := v.missed + 1, errorRun := v.errorRun + 1 }) := by
  obtain ⟨hstate, herrors⟩ := State.recordArrival_input (s := s) (i := i) c
  have hfew : ¬ 3 ≤ (s.input i).errorRun + 1 := by omega
  simp only [State.errorWord, hstate, h, herrors, if_neg hfew, State.recordArrival_countError, State.modInput_modInput]
  refine s.modInput_congr i ?_
  rw [InLane.afterError, InLane.offerCapture_keeps]

/-- R67: the third error word in a row takes the lane to SEEKING. -/
theorem State.errorWord_leaves (h : (s.input i).state = .tracking) (hrun : 2 ≤ (s.input i).errorRun) :
    (s.recordArrival i c).errorWord i =
      (s.modInput i (fun v =>
        { v.afterError c with state := .seeking, seeking := 0, missed := 0, errorRun := 0, lock := none })).reportLane i
          .tracking .seeking .errors none := by
  obtain ⟨hstate, herrors⟩ := State.recordArrival_input (s := s) (i := i) c
  have hmany : 3 ≤ (s.input i).errorRun + 1 := by omega
  simp only [State.errorWord, hstate, h, herrors, if_pos hmany, State.recordArrival_countError, State.leaveTracking,
    State.modInput_modInput]

end error

/-- Settles O26: what is no word, an error word in each tracking state, and what a word leaves of the store and the other lanes. -/
theorem errorWordsAndFrames : Obligations.ErrorWordsAndFrames := by
  intro i w s
  refine ⟨fun h => congrArg _ (State.wordArrives_ignored h), fun hkind hsync hbad => ?error, fun t ht => ?frame⟩
  case error =>
    have hexec : exec (.wordArrival i w) s =
        .next ((s.recordArrival i ⟨s.tick, judgeWord (s.input i).settings w, wordBits w, wordCheck w⟩).errorWord i) :=
      congrArg Host.Outcome.next (State.wordArrives_error hkind hsync hbad)
    rw [hexec]
    exact ⟨fun h => congrArg _ (State.errorWord_silent h), fun h => congrArg _ (State.errorWord_seeking h),
      fun h hrun => congrArg _ (State.errorWord_missed h hrun), fun h hrun => congrArg _ (State.errorWord_leaves h hrun)⟩
  case frame =>
    have hkeeps : s.KeepsToLane t i := Host.Outcome.next.inj ht ▸ State.KeepsToLane.wordArrives
    exact ⟨hkeeps.store, hkeeps.others⟩

end Sys2Proof.Machine

/-! PROOFS. Good words and edges (R59, R60, R62 to R68): the record and the statistics, the edge that reaches the House Clock, the tracking
case by case, and then the slip, the flags and the two expiries (R66, R69, R70, R73, R74). -/

namespace Sys2Proof.Machine

open Sys2Proof

/-! ### The edge that reaches the House Clock (R27, R29) -/

/-- R25, R29, R35: the House Clock after an edge of its source with the reference period given. -/
def HouseClock.afterEdge (h : HouseClock) (period : Nat) : HouseClock :=
  if h.full then h
  else match h.state with
    | .off => h
    | .acquire | .locked => h.screen period
    | .holdover => { (h.forget.startWindow h.fineStamp period) with state := .acquire, stale := false, holdoverSince := none }

section laneEdge

variable (s : State) (i : LaneId)

theorem State.takeEdge_hc : s.takeEdge.hc = s.hc.afterEdge s.refPeriod := by
  unfold State.takeEdge HouseClock.afterEdge
  split
  · rfl
  · cases hs : s.hc.state <;> simp [hs]

theorem State.laneEdge_hc : (s.laneEdge i).hc = if s.hc.source = .lane i then s.hc.afterEdge s.refPeriod else s.hc := by
  unfold State.laneEdge
  split
  · exact s.takeEdge_hc
  · rfl

/-- R27, R37: an edge reaches the House Clock, and the links by its notice; nothing else. -/
theorem State.laneEdge_eq : s.laneEdge i = { s with hc := (s.laneEdge i).hc, links := (s.laneEdge i).links } := by
  have hreport (u : State) (old : HouseClock) :
      u.reportReference old = { u with links := (u.reportReference old).links } := by
    unfold State.reportReference
    split <;> rfl
  have hedge : s.takeEdge = { s with hc := s.takeEdge.hc, links := s.takeEdge.links } := by
    unfold State.takeEdge
    dsimp only
    split
    · rfl
    · split
      · rfl
      all_goals
        rw [hreport]
        rfl
  unfold State.laneEdge
  split
  · exact hedge
  · rfl

/-- R27: what an update of a lane keeps of its settings, the edge it hands over sees. -/
theorem State.laneEdge_modInput_hc {f : InLane → InLane} (h : (f (s.input i)).settings = (s.input i).settings) :
    ((s.modInput i f).laneEdge i).hc = (s.laneEdge i).hc := by
  rw [State.laneEdge_hc, State.laneEdge_hc]
  by_cases hsource : s.hc.source = .lane i
  · rw [State.refPeriod_lane hsource, State.refPeriod_lane (s := s.modInput i f) hsource, State.modInput_input_self, h]
    rfl
  · rw [if_neg hsource]
    exact if_neg hsource

end laneEdge

/-! ### The record of a good arrival (R60, R71, R72, R77) -/

/-- R71: capture has no part in the statistics. -/
theorem InLane.addOffset_offerCapture (v : InLane) (c : Captured) (off : Int) (arrival : Nat) :
    ((v.offerCapture c).addOffset off arrival).window = (v.addOffset off arrival).window ∧
    ((v.offerCapture c).addOffset off arrival).published = (v.addOffset off arrival).published := by
  rw [InLane.offerCapture_keeps]
  unfold InLane.addOffset
  dsimp only
  split <;> exact ⟨rfl, rfl⟩

/-- R60, R71, R72, R77: a lane once a good word or edge has been offered to capture, recorded and counted. -/
def InLane.afterGood (v : InLane) (c : Captured) (g : GoodArrival) (off : Int) (now : Nat) : InLane :=
  { (v.offerCapture c).addOffset off now with
    latest := some ⟨.good, now⟩
    good := some g
    counters := { v.counters with good := bump v.counters.good } }

/-- R60, R71, R72, R77: what a good arrival leaves of its lane. -/
theorem InLane.afterGood_eq (v : InLane) (c : Captured) (g : GoodArrival) (off : Int) (now : Nat) :
    v.afterGood c g off now =
      { v with
        captured := (v.offerCapture c).captured
        captureMode := (v.offerCapture c).captureMode
        overrun := (v.offerCapture c).overrun
        lastOffset := some off
        window := (v.addOffset off now).window
        published := (v.addOffset off now).published
        latest := some ⟨.good, now⟩
        good := some g
        counters := { v.counters with good := bump v.counters.good } } := by
  obtain ⟨hwindow, hpublished⟩ := v.addOffset_offerCapture c off now
  rw [InLane.afterGood, InLane.addOffset_keeps, hwindow, hpublished, InLane.offerCapture_keeps]

/-- R60, R75: a good arrival recorded, and its edge handed to the House Clock. -/
def State.recordGood (s : State) (i : LaneId) (c : Captured) (g : GoodArrival) (off : Int) : State :=
  (s.modInput i (fun v => v.afterGood c g off s.tick)).laneEdge i

section recordGood

variable (s : State) (i : LaneId) (c : Captured) (g : GoodArrival) (off : Int)

theorem State.recordGood_input : (s.recordGood i c g off).input i = (s.input i).afterGood c g off s.tick := by
  rw [State.recordGood, State.input, State.laneEdge_inputs]
  exact State.modInput_input_self s i _

theorem State.recordGood_input_of_ne {j : LaneId} (hj : j ≠ i) : (s.recordGood i c g off).input j = s.input j := by
  rw [State.recordGood, State.input, State.laneEdge_inputs]
  exact s.modInput_input_of_ne i _ hj

theorem State.recordGood_hc : (s.recordGood i c g off).hc = (s.laneEdge i).hc :=
  s.laneEdge_modInput_hc i (by rw [InLane.afterGood_eq])

end recordGood

/-! ### An arrival judged good (R59, R62, R63) -/

section good

variable {s : State} {i : LaneId}

theorem exec_wordArrival_good {w : FrameWord} {tl : Timeline} (hkind : (s.input i).settings.kind = .timecode)
    (hsync : wordSync w = syncPattern) (hgood : judgeWord (s.input i).settings w = .good) (htl : (s.input i).expected = some tl) :
    let v := s.input i
    let f := fieldsOfBits (wordBits w)
    let n := frameNumber v.settings.rate v.settings.drop f.label
    let tFrame : Int := (s.tick : Int) - v.settings.lead
    let g : GoodArrival := ⟨s.tick, tFrame, some f, n⟩
    exec (.wordArrival i w) s =
      .next ((s.recordGood i ⟨s.tick, .good, wordBits w, wordCheck w⟩ g (wordOffset tl n tFrame)).track i g (wordOffset tl n tFrame)
        (v.labelFollows n 1) (v.labelFollows n (1 + v.missed))) := by
  intro v f n tFrame g
  refine congrArg Host.Outcome.next ((if_pos ⟨hkind, hsync⟩).trans ?_)
  simp only [hgood, htl, Option.map_some, Option.getD_some]
  exact s.goodArrival_eq i _ g _ _ rfl rfl rfl

theorem exec_pulseEdge_other (hkind : (s.input i).settings.kind ≠ .pulse) : exec (.pulseEdge i) s = .next s :=
  congrArg Host.Outcome.next (if_neg hkind)

theorem exec_pulseEdge (hkind : (s.input i).settings.kind = .pulse) :
    let v := s.input i
    let tFrame : Int := (s.tick : Int) - v.settings.lead
    let g : GoodArrival := ⟨s.tick, tFrame, none, 0⟩
    let off := edgeOffset v.settings.rate.period tFrame
    exec (.pulseEdge i) s =
      .next ((s.recordGood i ⟨s.tick, .good, 0#54, 0#8⟩ g off).track i g off (v.edgeFollows tFrame 1)
        (v.edgeFollows tFrame (1 + v.missed))) := by
  intro v tFrame g off
  refine congrArg Host.Outcome.next ((if_pos hkind).trans ?_)
  exact s.goodArrival_eq i _ g _ _ rfl rfl rfl

/-- R64, R66: the slot of a label, counted from the latest good word's. -/
theorem InLane.labelFollows_iff {v : InLane} {p : GoodArrival} (hp : v.good = some p) (n j : Nat) :
    v.labelFollows n j = true ↔ n = (p.frameNo + j) % framesPerDay v.settings.rate v.settings.drop := by
  simp [InLane.labelFollows, hp]

/-- R68: the slot of an edge, within an eighth of a period of its tick. -/
theorem InLane.edgeFollows_iff {v : InLane} {p : GoodArrival} (hp : v.good = some p) (tFrame : Int) (j : Nat) :
    v.edgeFollows tFrame j = true ↔
      ((j * v.settings.rate.period : Nat) : Int) - (v.settings.rate.period / 8 : Nat) ≤ tFrame - p.tFrame ∧
        tFrame - p.tFrame ≤ ((j * v.settings.rate.period : Nat) : Int) + (v.settings.rate.period / 8 : Nat) := by
  simp only [InLane.edgeFollows, hp, Bool.and_eq_true, decide_eq_true_eq]

end good

/-! ### Tracking, case by case (R64 to R68) -/

section track

variable {s : State} {i : LaneId} {c : Captured} {g : GoodArrival} {off : Int} {follows continues : Bool}

/-- The tracking rules see the state and the seeking count as they stood before the arrival. -/
theorem State.recordGood_tracking :
    ((s.recordGood i c g off).input i).state = (s.input i).state ∧ ((s.recordGood i c g off).input i).seeking = (s.input i).seeking := by
  rw [State.recordGood_input, InLane.afterGood_eq]
  exact ⟨rfl, rfl⟩

theorem State.track_silent (h : (s.input i).state = .silent) :
    (s.recordGood i c g off).track i g off follows continues = (s.recordGood i c g off).enterSeeking i := by
  obtain ⟨hstate, -⟩ := State.recordGood_tracking (s := s) (i := i) (c := c) (g := g) (off := off)
  simp only [State.track, hstate, h]

/-- R64: a word that is not one after the previous, or comes after an error word, starts a new run. -/
theorem State.track_restarts (h : (s.input i).state = .seeking) (hrun : (s.input i).seeking = 0 ∨ ¬ follows = true) :
    (s.recordGood i c g off).track i g off follows continues = (s.recordGood i c g off).modInput i (fun v => { v with seeking := 1 }) := by
  obtain ⟨hstate, hseeking⟩ := State.recordGood_tracking (s := s) (i := i) (c := c) (g := g) (off := off)
  have hnot : ¬ ((s.input i).seeking ≠ 0 ∧ follows = true) := fun ⟨hne, hf⟩ => hrun.elim hne (· hf)
  simp only [State.track, hstate, h, hseeking, if_neg hnot]
  rfl

theorem State.track_counts (h : (s.input i).state = .seeking) (hpos : 0 < (s.input i).seeking) (hfew : (s.input i).seeking < 3)
    (hf : follows = true) :
    (s.recordGood i c g off).track i g off follows continues =
      (s.recordGood i c g off).modInput i (fun u => { u with seeking := (s.input i).seeking + 1 }) := by
  obtain ⟨hstate, hseeking⟩ := State.recordGood_tracking (s := s) (i := i) (c := c) (g := g) (off := off)
  have hnot : ¬ 4 ≤ (s.input i).seeking + 1 := by omega
  simp only [State.track, hstate, h, hseeking, if_pos (And.intro hpos.ne' hf), if_neg hnot]

/-- R65: the fourth in a row enters TRACKING. -/
theorem State.track_enters (h : (s.input i).state = .seeking) (hmany : 3 ≤ (s.input i).seeking) (hf : follows = true) :
    (s.recordGood i c g off).track i g off follows continues =
      ((s.recordGood i c g off).enterTracking i off).takeFlags i g true := by
  obtain ⟨hstate, hseeking⟩ := State.recordGood_tracking (s := s) (i := i) (c := c) (g := g) (off := off)
  have hne : (s.input i).seeking ≠ 0 := by omega
  have hfour : 4 ≤ (s.input i).seeking + 1 := by omega
  simp only [State.track, hstate, h, hseeking, if_pos (And.intro hne hf), if_pos hfour]

/-- R66, R70: a word or edge in the slot the missed run expects continues the lock. -/
theorem State.track_continues (h : (s.input i).state = .tracking) (hc : continues = true) :
    (s.recordGood i c g off).track i g off follows continues =
      ((((s.recordGood i c g off).modInput i (fun v => { v with missed := 0, errorRun := 0 })).judgeSlip i off (stampOf g.tFrame)).takeFlags
        i g false) := by
  obtain ⟨hstate, -⟩ := State.recordGood_tracking (s := s) (i := i) (c := c) (g := g) (off := off)
  simp only [State.track, hstate, h, hc, if_true]

/-- R67: any other is a discontinuity. -/
theorem State.track_breaks (h : (s.input i).state = .tracking) (hc : ¬ continues = true) :
    (s.recordGood i c g off).track i g off follows continues = (s.recordGood i c g off).discontinuity i := by
  obtain ⟨hstate, -⟩ := State.recordGood_tracking (s := s) (i := i) (c := c) (g := g) (off := off)
  simp only [State.track, hstate, h, if_neg hc]

/-- R67, R68: a discontinuity counted and reported is one update of the lane and one report. -/
theorem State.discontinuity_eq (s : State) (i : LaneId) :
    s.discontinuity i =
      (s.modInput i (fun v =>
        { v with
          state := .seeking
          seeking := 1
          missed := 0
          errorRun := 0
          lock := none
          counters := { v.counters with discontinuity := bump v.counters.discontinuity } })).reportLane i
        .tracking .seeking .discontinuity none := by
  rw [State.discontinuity, State.leaveTracking, State.count, State.modInput_modInput]

/-- R64 to R68: a good arrival on a lane in SEEKING or TRACKING, where `one` says that it is one after the previous and `due` that it
lies in the slot the missed run expects. -/
theorem State.track_cases {o : Host.Outcome State Fault Refusal} {one due : Prop}
    (ho : o = .next ((s.recordGood i c g off).track i g off follows continues)) (hone : follows = true ↔ one)
    (hdue : continues = true ↔ due) :
    ((s.input i).state = .seeking → (s.input i).seeking = 0 ∨ ¬ one →
      o = .next ((s.recordGood i c g off).modInput i (fun v => { v with seeking := 1 }))) ∧
    ((s.input i).state = .seeking → 0 < (s.input i).seeking → (s.input i).seeking < 3 → one →
      o = .next ((s.recordGood i c g off).modInput i (fun u => { u with seeking := (s.input i).seeking + 1 }))) ∧
    ((s.input i).state = .seeking → 3 ≤ (s.input i).seeking → one →
      o = .next (((s.recordGood i c g off).enterTracking i off).takeFlags i g true)) ∧
    ((s.input i).state = .tracking → due →
      o = .next ((((s.recordGood i c g off).modInput i (fun v => { v with missed := 0, errorRun := 0 })).judgeSlip i off
        (stampOf g.tFrame)).takeFlags i g false)) ∧
    ((s.input i).state = .tracking → ¬ due → o = .next ((s.recordGood i c g off).discontinuity i)) := by
  subst ho
  exact ⟨fun h hrun => congrArg _ (State.track_restarts h (hrun.imp_right (mt hone.mp))),
    fun h hpos hfew hf => congrArg _ (State.track_counts h hpos hfew (hone.mpr hf)),
    fun h hmany hf => congrArg _ (State.track_enters h hmany (hone.mpr hf)),
    fun h hd => congrArg _ (State.track_continues h (hdue.mpr hd)), fun h hd => congrArg _ (State.track_breaks h (mt hdue.mp hd))⟩

end track

/-! ### The lane a good arrival leaves (R64, R65, R75, R79) -/

section entered

variable (s : State) (i : LaneId) (c : Captured) (g : GoodArrival) (off : Int)

/-- R64: the first good word of a SILENT lane, on the lane itself. -/
theorem State.enterSeeking_input :
    ((s.recordGood i c g off).enterSeeking i).input i = { (s.input i).afterGood c g off s.tick with state := .seeking, seeking := 1 } := by
  rw [State.enterSeeking, State.reportLane, State.markChanged_input, State.post_input, State.modInput_input_self, State.recordGood_input]

/-- R64: it leaves the other lanes alone. -/
theorem State.enterSeeking_input_of_ne {j : LaneId} (hj : j ≠ i) : ((s.recordGood i c g off).enterSeeking i).input j = s.input j := by
  rw [State.enterSeeking, State.reportLane, State.markChanged_input, State.post_input, State.modInput_input_of_ne _ _ _ hj,
    State.recordGood_input_of_ne s i c g off hj]

/-- R64, R27: beside the lanes and the links, the edge alone has reached a block. -/
theorem State.enterSeeking_eq :
    (s.recordGood i c g off).enterSeeking i =
      { s with
        inputs := ((s.recordGood i c g off).enterSeeking i).inputs
        hc := (s.laneEdge i).hc
        links := ((s.recordGood i c g off).enterSeeking i).links } := by
  have hrecord : s.recordGood i c g off =
      { s with
        inputs := (s.recordGood i c g off).inputs
        hc := (s.laneEdge i).hc
        links := (s.recordGood i c g off).links } := by
    rw [← s.recordGood_hc i c g off, State.recordGood, State.laneEdge_inputs]
    exact State.laneEdge_eq _ i
  calc (s.recordGood i c g off).enterSeeking i
      = { s.recordGood i c g off with
          inputs := ((s.recordGood i c g off).enterSeeking i).inputs
          links := ((s.recordGood i c g off).enterSeeking i).links } := rfl
    _ = _ := by rw [hrecord]

/-- R79: a lane whose state has changed stands in every changed-lane set. -/
theorem State.reportLane_changed (prev now : Tracking) (cause : LaneCause) (lock : Option Int) (k : LinkId) :
    ((s.reportLane i prev now cause lock).link k).changed.getLsbD i.val = true := by
  rw [State.reportLane, State.markChanged_link, BitVec.getLsbD_or, getLsbD_laneBit, decide_eq_true rfl, Bool.or_true]

/-- R65: the lane on which the word that enters TRACKING has been taken, and its flags. -/
theorem State.enterTracking_input :
    ∃ e r win run clap, (((s.recordGood i c g off).enterTracking i off).takeFlags i g true).input i =
      { (s.input i).afterGood c g off s.tick with
        state := .tracking, seeking := 4, missed := 0, errorRun := 0, lock := some off
        expected := e, rebaseline := r, window := win, runLevel := run, clapLevel := clap } := by
  obtain ⟨e, r, win, run, clap, hflags⟩ := ((s.recordGood i c g off).enterTracking i off).takeFlags_lane i true g
  obtain ⟨e', r', win', hjam⟩ := State.SparesLanes.autoJamTrigger.lane i
  refine ⟨e, r, win, run, clap, hflags.trans ?_⟩
  rw [State.enterTracking, hjam, ← State.recordGood_input]
  simp only [State.reportLane, State.markChanged_input, State.post_input, State.modInput_input_self]

theorem State.enterTracking_changed (k : LinkId) :
    ((((s.recordGood i c g off).enterTracking i off).takeFlags i g true).link k).changed.getLsbD i.val = true :=
  State.takeFlags_changed _ i true g (State.SparesLanes.autoJamTrigger.changed k i (State.reportLane_changed _ i _ _ _ _ k))

end entered

/-! ### Statistics (R71) -/

theorem OpenWindow.add_eq (w : OpenWindow) (off : Int) :
    w.add off = ⟨w.count + 1, if w.count = 0 then off else w.sum + off, if w.count = 0 then off else min w.low off,
      if w.count = 0 then off else max w.high off⟩ := by
  unfold OpenWindow.add
  split
  · rename_i h
    rw [h]
  · rfl

section statistics

variable {v : InLane} {off : Int} {arrival : Nat}

theorem InLane.addOffset_open (h : v.window.count + 1 < v.settings.window) :
    v.addOffset off arrival = { v with lastOffset := some off, window := v.window.add off } := by
  have hopen : ¬ v.settings.window ≤ (v.window.add off).count := by
    rw [OpenWindow.add_eq]
    exact Nat.not_le.mpr h
  exact if_neg hopen

/-- R71: the W-th offset publishes the window and empties it. -/
theorem InLane.addOffset_publishes (h : v.settings.window ≤ v.window.count + 1) :
    v.addOffset off arrival =
      { v with
        lastOffset := some off
        window := emptyWindow
        published := some ⟨(v.window.add off).low, (v.window.add off).high, (v.window.add off).sum / (v.settings.window : Int),
          v.settings.window, arrival⟩ } := by
  have hfull : v.settings.window ≤ (v.window.add off).count := by
    rw [OpenWindow.add_eq]
    exact h
  exact if_pos hfull

end statistics

/-- Settles O27: the statistics window; an edge and a good word on a SILENT lane; the good word that enters TRACKING. -/
theorem goodArrivalsAdvanceTracking : Obligations.GoodArrivalsAdvanceTracking := by
  intro i s v tFrame sought seeks
  have hseeks (c : Captured) (g : GoodArrival) (off : Int) : seeks (sought c g off) g off := by
    have hlane : (sought c g off).input i = { v.afterGood c g off s.tick with state := .seeking, seeking := 1 } :=
      s.enterSeeking_input i c g off
    rw [InLane.afterGood_eq] at hlane
    have hrest := s.enterSeeking_eq i c g off
    have hhc : (sought c g off).hc = (s.laneEdge i).hc := (congrArg State.hc hrest :)
    refine ⟨?_, ?_, ?_, ?_, ?_, ?_, ?_, ?counted, ?_, ?_, fun j hj => s.enterSeeking_input_of_ne i c g off hj,
      State.reportLane_changed _ i _ _ _ _, fun hsource => hhc.trans (congrArg State.hc (State.laneEdge_other hsource)), hhc,
      (congrArg State.tu hrest :), (congrArg State.outputs hrest :), (congrArg State.tt hrest :), (congrArg State.su hrest :),
      (congrArg State.store hrest :), (congrArg State.pending hrest :)⟩
    case counted => exact (congrArg (·.counters.good) hlane :)
    all_goals rw [hlane]
  refine ⟨fun off arrival => ?window, exec_pulseEdge_other, fun hkind hsilent => ⟨?edge, hseeks _ _ _⟩,
    fun w tl hkind hsync hgood htl => ⟨fun hsilent => ⟨?word, hseeks _ _ _⟩, fun p hseeking hcount hp hn => ?enters⟩⟩
  case window =>
    refine ⟨fun h => ?_, fun h => ?_⟩
    · rw [InLane.addOffset_open h, OpenWindow.add_eq]
    · rw [InLane.addOffset_publishes h, OpenWindow.add_eq]
      rfl
  case edge =>
    rw [exec_pulseEdge hkind]
    exact congrArg _ (State.track_silent hsilent)
  case word =>
    rw [exec_wordArrival_good hkind hsync hgood htl]
    exact congrArg _ (State.track_silent hsilent)
  case enters =>
    let f := fieldsOfBits (wordBits w)
    let n := frameNumber v.settings.rate v.settings.drop f.label
    have hfollows : v.labelFollows n 1 = true := (InLane.labelFollows_iff hp n 1).mpr hn
    obtain ⟨e, r, win, run, clap, hlane⟩ :=
      s.enterTracking_input i ⟨s.tick, .good, wordBits w, wordCheck w⟩ ⟨s.tick, tFrame, some f, n⟩ (wordOffset tl n tFrame)
    rw [InLane.afterGood_eq] at hlane
    have hexec := (exec_wordArrival_good hkind hsync hgood htl).trans (congrArg _ (State.track_enters hseeking hcount.ge hfollows))
    refine ⟨_, hexec, ?_, ?_, ?_, ?_, ?_, ?_, s.enterTracking_changed i _ _ _, ?store⟩
    case store => exact (Host.Outcome.next.inj hexec) ▸ (State.KeepsToLane.wordArrives (s := s) (i := i) (w := w)).store
    all_goals rw [hlane]

/-- Settles O28: a good word, and an edge, by the tracking state, the seeking count and the slot it lies in. -/
theorem goodArrivalsContinueTracking : Obligations.GoodArrivalsContinueTracking := by
  intro i s v period tFrame recorded entered continued broken
  have hbroken (c : Captured) (g : GoodArrival) (off : Int) : (s.recordGood i c g off).discontinuity i = broken c g off :=
    State.discontinuity_eq _ i
  refine ⟨fun w tl p hkind hsync hgood htl hp => ?word, fun p hkind hp => ?edge⟩
  case word =>
    intro f n after c g off flags
    rw [← hbroken]
    exact State.track_cases (exec_wordArrival_good hkind hsync hgood htl) (InLane.labelFollows_iff hp n 1)
      (InLane.labelFollows_iff hp n (1 + v.missed))
  case edge =>
    intro slot c g off
    rw [← hbroken]
    exact State.track_cases (exec_pulseEdge hkind) (InLane.edgeFollows_iff hp tFrame 1)
      (InLane.edgeFollows_iff hp tFrame (1 + v.missed))

/-! ### A SLIP (R70) -/

theorem Role.isUnit_iff (r : Role) : r.isUnit = true ↔ r = .camera ∨ r = .sound := by
  cases r <;> decide

section slip

variable {s : State} {i : LaneId} {off : Int} {stamp : Nat}

theorem State.judgeSlip_relocks (h : (s.input i).rebaseline = true ∨ (s.input i).lock = none) :
    s.judgeSlip i off stamp = s.modInput i (fun v => { v with lock := some off, rebaseline := false }) := by
  cases hlock : (s.input i).lock with
  | none => simp only [State.judgeSlip, hlock]
  | some k =>
    have hmark : (s.input i).rebaseline = true := h.resolve_right (hlock ▸ Option.some_ne_none k)
    simp only [State.judgeSlip, hlock, hmark, if_true]

variable {k : Int} (hmark : (s.input i).rebaseline = false) (hlock : (s.input i).lock = some k)

include hmark hlock

theorem State.judgeSlip_within (h : (off - k).natAbs ≤ (s.input i).settings.tolerance) : s.judgeSlip i off stamp = s := by
  simp only [State.judgeSlip, hlock, hmark, if_neg (Nat.not_lt.mpr h), Bool.false_eq_true, if_false]

theorem State.judgeSlip_slips (h : (s.input i).settings.tolerance < (off - k).natAbs) :
    s.judgeSlip i off stamp = s.slip i off k stamp := by
  simp only [State.judgeSlip, hlock, hmark, if_pos h, Bool.false_eq_true, if_false]

end slip

/-! ### Run and clap flags (R73, R74, R129, R146) -/

section runFlag

variable {s : State} {i : LaneId} {run entry : Bool} {stamp : Nat}

theorem State.takeRunFlag_starts (hunit : (s.input i).settings.role.isUnit = true) (h : entry = true ∨ (s.input i).runLevel = false) :
    s.takeRunFlag i true entry stamp = (s.runStart i stamp).modInput i (fun v => { v with runLevel := true }) := by
  have hstart : (true && (entry || !(s.input i).runLevel)) = true := by
    rcases h with h | h <;> simp [h]
  simp only [State.takeRunFlag, hunit, hstart, if_true]

theorem State.takeRunFlag_stops (hunit : (s.input i).settings.role.isUnit = true) (h : (s.input i).runLevel = true) :
    s.takeRunFlag i false entry stamp = (s.runStop i stamp).modInput i (fun v => { v with runLevel := false }) := by
  simp [State.takeRunFlag, hunit, h]

/-- R73: without a change of level under a CAMERA or SOUND role the run flag only sets the level. -/
theorem State.takeRunFlag_level (h : ¬ (s.input i).settings.role.isUnit = true ∨ (entry = false ∧ run = (s.input i).runLevel) ∨
    (run = false ∧ (s.input i).runLevel = false)) :
    s.takeRunFlag i run entry stamp = s.modInput i (fun v => { v with runLevel := run }) := by
  rcases h with h | ⟨hentry, hrun⟩ | ⟨hrun, hlevel⟩
  · simp only [State.takeRunFlag, if_neg h]
  · simp [State.takeRunFlag, hentry, hrun]
  · simp [State.takeRunFlag, hrun, hlevel]

end runFlag

section clapFlag

variable {s : State} {i : LaneId} {stamp : Nat}

theorem State.takeClapFlag_level {clap entry : Bool}
    (h : (s.input i).settings.role ≠ .slate ∨ clap = false ∨ (s.input i).clapLevel = true ∨ entry = true) :
    s.takeClapFlag i clap entry stamp = s.modInput i (fun v => { v with clapLevel := clap }) := by
  have hnone : ¬ ((s.input i).settings.role = .slate ∧ clap ∧ !(s.input i).clapLevel ∧ !entry) := by
    rintro ⟨hrole, hclap, hlevel, hentry⟩
    rcases h with h | rfl | h | rfl
    · exact h hrole
    · exact nomatch hclap
    · exact nomatch (h ▸ hlevel : (!true) = true)
    · exact nomatch hentry
  simp only [State.takeClapFlag, if_neg hnone]

/-- R74: a clap flag that rises under the role SLATE is a clap presented with its stamp. -/
theorem State.takeClapFlag_presents (hrole : (s.input i).settings.role = .slate) (hlevel : (s.input i).clapLevel = false) :
    s.takeClapFlag i true false stamp =
      (s.presentClap (s.clapStamp stamp) (.lane i)).1.modInput i (fun v => { v with clapLevel := true }) := by
  simp [State.takeClapFlag, hrole, hlevel]

/-- R129: the lockout accepts a stamp where none stands, or the one that stands is far enough. -/
theorem SlateUnit.accepts_iff (u : SlateUnit) :
    u.accepts stamp = true ↔ ∀ r, u.lockout = some r → 144000 ≤ ((stamp : Int) - r).natAbs := by
  cases h : u.lockout <;> simp [SlateUnit.accepts, h, Config.lockoutTicks]

theorem State.presentClap_accepted {source : Origin} (h : s.su.accepts stamp = true) :
    (s.presentClap stamp source).1 = (s.acceptClap stamp source).1 := by
  simp only [State.presentClap, h, if_true]

theorem State.presentClap_ignored {source : Origin} (h : ¬ s.su.accepts stamp = true) : (s.presentClap stamp source).1 = s := by
  simp only [State.presentClap, if_neg h]

end clapFlag

/-- Settles O29: an offset judged by the mark, the lock and the tolerance; the run flag and the clap flag by role, level and entry. -/
theorem slipRunAndClapFlags : Obligations.SlipRunAndClapFlags := by
  intro i s stamp v unit
  have hunit : v.settings.role.isUnit = true ↔ unit := v.settings.role.isUnit_iff
  refine ⟨fun off => ⟨State.judgeSlip_relocks, fun k hmark hlock => ⟨State.judgeSlip_within hmark hlock, fun hbeyond => ?slips⟩⟩,
    fun entry => ⟨fun hu h => State.takeRunFlag_starts (hunit.mpr hu) h, fun hu h => State.takeRunFlag_stops (hunit.mpr hu) h,
      fun run h => State.takeRunFlag_level (h.imp_left (mt hunit.mp))⟩,
    fun clap entry => ⟨State.takeClapFlag_level, fun hrole hlevel => ⟨fun hnear => ?ignored, fun hfar => ?accepted⟩⟩⟩
  case slips =>
    have hhanded (x : State) : (if v.settings.role.isUnit then x.takeSlip i stamp else x) =
        if v.settings.role = .camera ∨ v.settings.role = .sound then x.takeSlip i stamp else x := if_congr hunit rfl rfl
    rw [State.judgeSlip_slips hmark hlock hbeyond, State.slip_eq, State.slipHandedOn, hhanded]
    rfl
  case ignored =>
    obtain ⟨r, hr, hnear⟩ := hnear
    rw [State.takeClapFlag_presents hrole hlevel, State.presentClap_ignored]
    exact fun h => absurd (s.su.accepts_iff.mp h r hr) (Nat.not_le.mpr hnear)
  case accepted =>
    have haccepts : s.su.accepts (s.clapStamp stamp) = true := s.su.accepts_iff.mpr hfar
    rw [State.takeClapFlag_presents hrole hlevel, State.presentClap_accepted haccepts]
    rfl

/-! ### The expiries (R66, R69, R73, R75) -/

section expiries

variable {s : State} {i : LaneId}

theorem exec_missingExpiry_due (h : s.missingDue i = true) :
    exec (.missingExpiry i) s = .next (s.modInput i (fun v =>
      { v with missed := v.missed + 1, counters := { v.counters with missing := bump v.counters.missing } })) := by
  refine congrArg Host.Outcome.next ((if_pos h).trans ?_)
  rw [State.count, State.modInput_modInput]

theorem exec_missingExpiry_notDue (h : s.missingDue i = false) : exec (.missingExpiry i) s = .next s :=
  congrArg Host.Outcome.next (if_neg (Bool.eq_false_iff.mp h))

theorem exec_silenceExpiry_due (h : s.silenceDue i = true) : exec (.silenceExpiry i) s = .next (s.goSilent i .silence) :=
  congrArg Host.Outcome.next (if_pos h)

theorem exec_silenceExpiry_notDue (h : s.silenceDue i = false) : exec (.silenceExpiry i) s = .next s :=
  congrArg Host.Outcome.next (if_neg (Bool.eq_false_iff.mp h))

theorem InLane.dropoutStamp_good {v : InLane} {g : GoodArrival} (h : v.good = some g) (now : Nat) :
    v.dropoutStamp now = (min (g.tFrame + v.settings.rate.period) now).toNat := by
  simp only [InLane.dropoutStamp, h, stampOf]

/-- R69, R73: a DROPOUT goes with the run level at 1 under a CAMERA or SOUND role. -/
theorem State.dropout_eq (s : State) (i : LaneId) :
    s.dropout i =
      if (s.input i).runLevel = true ∧ ((s.input i).settings.role = .camera ∨ (s.input i).settings.role = .sound) then
        ((s.takeDropout i ((s.input i).dropoutStamp s.tick)).post
          (.dropout i ((s.input i).dropoutStamp s.tick) (s.input i).settings.role)).markChanged i
      else s :=
  if_congr (by rw [Bool.and_eq_true, Role.isUnit_iff]) rfl rfl

end expiries

/-- Settles O30: each expiry by whether it is due, and a lane's going SILENT. -/
theorem missingAndSilenceExpiries : Obligations.MissingAndSilenceExpiries := by
  intro i s v silent
  have hsilent (cause : LaneCause) : s.goSilent i cause = silent cause := by
    rw [State.goSilent, State.dropout_eq]
    rfl
  refine ⟨fun g hfull hstate hgood hlate => ?missing, exec_missingExpiry_notDue, fun g hgood => InLane.dropoutStamp_good hgood s.tick,
    fun a hstate hlatest hlate => ?silence, hsilent, exec_silenceExpiry_notDue⟩
  case missing => exact exec_missingExpiry_due ((s.missingDue_iff i).mpr ⟨hfull, hstate, g, hgood, hlate⟩)
  case silence => rw [exec_silenceExpiry_due ((s.silenceDue_iff i).mpr ⟨hstate, a, hlatest, hlate⟩), hsilent]

end Sys2Proof.Machine

/-! PROOFS. Output Lanes (chapter 05): the fields of SET OUTPUT, what it leaves on a lane, and the events of a lane in force. -/

namespace Sys2Proof.Machine

open Sys2Proof

/-! ### Rates, drop modes and labels of SET OUTPUT (R83, R183) -/

theorem sampleRateOf_unknown {b : Byte} (h : 3 < b.toNat) : sampleRateOf b = none := by
  obtain ⟨k, hk⟩ := Nat.exists_eq_add_of_le' h
  rw [sampleRateOf, hk]
  rfl

theorem pullOf_unknown {b : Byte} (h : 2 < b.toNat) : pullOf b = none := by
  obtain ⟨k, hk⟩ := Nat.exists_eq_add_of_le' h
  rw [pullOf, hk]
  rfl

theorem userSourceOf_unknown {b : Byte} (value : BitVec 24) (h : 1 < b.toNat) : userSourceOf b value = none := by
  obtain ⟨k, hk⟩ := Nat.exists_eq_add_of_le' h
  rw [userSourceOf, hk]
  rfl

theorem userSourceOf_eq {user : Byte} {value : BitVec 24} {u : UserSource}
    (h : (user = 0#8 ∧ u = .constant value) ∨ (user = 1#8 ∧ u = .take)) : userSourceOf user value = some u := by
  rcases h with ⟨rfl, rfl⟩ | ⟨rfl, rfl⟩ <;> rfl

theorem switchOf_eq {drop : Byte} (h : drop = 0#8 ∨ drop = 1#8) : switchOf drop = some (decide (drop = 1#8)) := by
  rcases h with rfl | rfl <;> rfl

theorem labelOf_eq {f : LabelField} (h : f.flags = 0#8 ∨ f.flags = 1#8) :
    labelOf f = some (⟨f.hh.toNat, f.mm.toNat, f.ss.toNat, f.ff.toNat⟩, decide (f.flags = 1#8)) := by
  rcases h with h | h <;> simp [labelOf, h]

theorem labelOf_unknown {f : LabelField} (h : 1 < f.flags.toNat) : labelOf f = none := if_neg (Nat.not_le.mpr h)

/-- R2: drop mode off, or on with class 3 or 8, is allowed. -/
theorem dropFits_of_code {drop cls : Byte} {r : RateCode} (hr : rateOf cls = some r)
    (h : drop = 0#8 ∨ (drop = 1#8 ∧ (cls = 3#8 ∨ cls = 8#8))) : dropFits r (decide (drop = 1#8)) = true := by
  rcases h with rfl | ⟨rfl, rfl | rfl⟩
  · rfl
  · obtain rfl : RateCode.f29 = r := Option.some.inj hr
    rfl
  · obtain rfl : RateCode.f59 = r := Option.some.inj hr
    rfl

theorem customAllowed_iff {b : Nat} : customAllowed b = true ↔ 1 ≤ b ∧ b ≤ 120 ∧ 720000 % b = 0 := by
  simp [customAllowed, and_assoc]

/-! ### PULSE configurations (R83) -/

section pulse

variable {form rate drop : Byte} {pl du : BitVec 24}

theorem pulseRateOf_code {k : RateCode} (hk : rateOf rate = some k) : pulseRateOf 0#8 rate = some (.code k) := by
  have hmap : pulseRateOf 0#8 rate = (rateOf rate).map PulseRate.code := rfl
  rw [hmap, hk, Option.map_some]

theorem pulseRateOf_code_eq_some {p : PulseRate} (h : pulseRateOf 0#8 rate = some p) : ∃ k, rateOf rate = some k ∧ .code k = p :=
  Option.map_eq_some_iff.mp h

theorem pulseRateOf_custom (h : customAllowed rate.toNat = true) : pulseRateOf 1#8 rate = some (.custom rate.toNat) := if_pos h

theorem pulseRateOf_custom_eq_some {p : PulseRate} (h : pulseRateOf 1#8 rate = some p) :
    customAllowed rate.toNat = true ∧ .custom rate.toNat = p := by
  have hite : (if customAllowed rate.toNat then some (.custom rate.toNat) else none) = some p := h
  simpa using hite

theorem pulseRateOf_unknown (h : 1 < form.toNat) : pulseRateOf form rate = none := by
  obtain ⟨k, hk⟩ := Nat.exists_eq_add_of_le' h
  rw [pulseRateOf, hk]
  rfl

/-- R83: an allowed rate and drop mode, with placement and duration brought into the frame. -/
theorem pulseConfigOf_eq {r : PulseRate} (hr : pulseRateOf form rate = some r) (hdrop : drop = 0#8 ∨ drop = 1#8)
    (hfit : pulseDropFits r (decide (drop = 1#8)) = true) :
    pulseConfigOf form rate drop pl du =
      some (.pulse r (decide (drop = 1#8)) (min pl.toNat (r.period - 1)) (max 1 (min du.toNat (r.period - 1)))) := by
  simp only [pulseConfigOf, hr, switchOf_eq hdrop, hfit, if_true, clamp, Nat.min_comm]

/-- R83, R183: a form, rate or drop mode out of its codes names no PULSE configuration. -/
theorem pulseConfigOf_unknown
    (h : 1 < form.toNat ∨ 1 < drop.toNat ∨ (form = 0#8 ∧ (9 < rate.toNat ∨ (drop = 1#8 ∧ rate ≠ 3#8 ∧ rate ≠ 8#8))) ∨
      (form = 1#8 ∧ (rate = 0#8 ∨ 120 < rate.toNat ∨ 720000 % rate.toNat ≠ 0 ∨ drop = 1#8))) :
    pulseConfigOf form rate drop pl du = none := by
  unfold pulseConfigOf
  split
  · rename_i r d hr hd
    refine if_neg fun hfit => ?_
    rcases h with h | h | ⟨rfl, h⟩ | ⟨rfl, h⟩
    · exact nomatch (pulseRateOf_unknown h).symm.trans hr
    · exact nomatch (switchOf_unknown h).symm.trans hd
    · obtain ⟨k, hk, rfl⟩ := pulseRateOf_code_eq_some hr
      rcases h with h | ⟨hdrop, h3, h8⟩
      · exact nomatch (rateOf_unknown h).symm.trans hk
      · exact nomatch (dropFits_eq_false hk hdrop h3 h8 hd).symm.trans hfit
    · obtain ⟨hallowed, rfl⟩ := pulseRateOf_custom_eq_some hr
      obtain ⟨hleast, hmost, hdivides⟩ := customAllowed_iff.mp hallowed
      rcases h with rfl | h | h | rfl
      · exact absurd hleast (by decide)
      · exact absurd hmost (Nat.not_le.mpr h)
      · exact h hdivides
      · obtain rfl : true = d := Option.some.inj hd
        exact nomatch hfit
  · rfl

end pulse

/-! ### TIMECODE and WORDCLOCK configurations, and the kinds (R83, R183) -/

section timecode

variable {cls timeline user : Byte} {origin : BitVec 48} {label : LabelField} {value : BitVec 24}

section named

variable {k : RateCode} {u : UserSource} (hk : rateOf cls = some k)
  (hflags : label.flags = 0#8 ∨ (label.flags = 1#8 ∧ (cls = 3#8 ∨ cls = 8#8))) (hu : userSourceOf user value = some u)

include hk hflags hu

/-- R83: under FOLLOW the label's numbers and the origin tick are ignored. -/
theorem timecodeConfigOf_follow :
    timecodeConfigOf cls 0#8 origin label user value = some (.timecode k (decide (label.flags = 1#8)) .follow u) := by
  simp [timecodeConfigOf, hk, labelOf_eq (hflags.imp_right And.left), hu, dropFits_of_code hk hflags]

theorem timecodeConfigOf_own :
    timecodeConfigOf cls 1#8 origin label user value =
      if labelValid k (decide (label.flags = 1#8)) ⟨label.hh.toNat, label.mm.toNat, label.ss.toNat, label.ff.toNat⟩ then
        some (.timecode k (decide (label.flags = 1#8))
          (.own origin.toNat ⟨label.hh.toNat, label.mm.toNat, label.ss.toNat, label.ff.toNat⟩) u)
      else none := by
  simp [timecodeConfigOf, hk, labelOf_eq (hflags.imp_right And.left), hu, dropFits_of_code hk hflags]

end named

/-- R83, R183: a code out of its values, or a drop mode that its rate code does not allow, names no TIMECODE configuration. -/
theorem timecodeConfigOf_unknown
    (h : 9 < cls.toNat ∨ 1 < label.flags.toNat ∨ (label.flags = 1#8 ∧ cls ≠ 3#8 ∧ cls ≠ 8#8) ∨ 1 < timeline.toNat ∨ 1 < user.toNat) :
    timecodeConfigOf cls timeline origin label user value = none := by
  unfold timecodeConfigOf
  split
  · rename_i r lab d u hr hlabel hu
    split
    · rename_i hfit
      rcases h with h | h | ⟨hflags, h3, h8⟩ | h | h
      · exact nomatch (rateOf_unknown h).symm.trans hr
      · exact nomatch (labelOf_unknown h).symm.trans hlabel
      · have hd : switchOf label.flags = some d := by
          rw [labelOf_eq (.inr hflags)] at hlabel
          rw [switchOf_eq (.inr hflags), (Prod.mk.inj (Option.some.inj hlabel)).2]
        exact nomatch (dropFits_eq_false hr hflags h3 h8 hd).symm.trans hfit
      · obtain ⟨n, hn⟩ := Nat.exists_eq_add_of_le' h
        rw [hn]
        rfl
      · exact nomatch (userSourceOf_unknown value h).symm.trans hu
    · rfl
  · rfl

end timecode

section wordclock

variable {sampleRate pull : Byte}

theorem outConfigOf_wordclock {sr : SampleRate} {q : Pull} (hsr : sampleRateOf sampleRate = some sr) (hq : pullOf pull = some q) :
    outConfigOf 3#8 (.wordclock sampleRate pull) = some (.wordclock sr q) := by
  simp [outConfigOf, hsr, hq]

theorem outConfigOf_wordclock_unknown (h : 3 < sampleRate.toNat ∨ 2 < pull.toNat) :
    outConfigOf 3#8 (.wordclock sampleRate pull) = none := by
  rcases h with h | h
  · simp [outConfigOf, sampleRateOf_unknown h]
  · cases hsr : sampleRateOf sampleRate <;> simp [outConfigOf, hsr, pullOf_unknown h]

end wordclock

/-- R83, R183: a kind above 3, or settings characters of another kind, name no configuration. -/
theorem outConfigOf_mismatch {kind : Byte} {f : OutputFields} (h0 : kind = 0#8 → f ≠ .bare)
    (h1 : kind = 1#8 → ∀ a b d pl du, f ≠ .pulse a b d pl du) (h2 : kind = 2#8 → ∀ a b o lab u x, f ≠ .timecode a b o lab u x)
    (h3 : kind = 3#8 → ∀ a b, f ≠ .wordclock a b) : outConfigOf kind f = none := by
  unfold outConfigOf
  split
  · exact absurd rfl (h0 (BitVec.eq_of_toNat_eq ‹_›))
  · exact absurd rfl (h1 (BitVec.eq_of_toNat_eq ‹_›) _ _ _ _ _)
  · exact absurd rfl (h2 (BitVec.eq_of_toNat_eq ‹_›) _ _ _ _ _ _)
  · exact absurd rfl (h3 (BitVec.eq_of_toNat_eq ‹_›) _ _)
  · rfl

/-! ### SET OUTPUT (R83, R84) -/

theorem State.modOutput_congr {s : State} {o : LaneId} {f g : OutLane → OutLane} (h : f (s.output o) = g (s.output o)) :
    s.modOutput o f = s.modOutput o g := by
  simp [State.modOutput, h]

@[simp] theorem setupOf_config (house : Timeline) (r : Nat) (c : OutConfig) : (setupOf house r c).config = c := by
  cases c with
  | timecode rate drop tl u => cases tl <;> rfl
  | off | pulse rate drop pl du | wordclock sr q => rfl

/-- R84: the boundary of the response is the effect boundary, also for OFF, which keeps none. -/
theorem OutLane.accept_acceptedBoundary (v : OutLane) (su : OutSetup) (r : Nat) :
    (v.accept su r).acceptedBoundary r = su.effectBoundary r := by
  unfold OutLane.accept
  split
  · rename_i hoff
    rw [OutSetup.effectBoundary, hoff]
    rfl
  · dsimp only
    split <;> rfl

section setOutput

variable {l : LinkId} {lane kind : Byte} {fields : OutputFields} {s : State} (h : s.takes l (.setOutput l lane kind fields) = true)

include h

theorem exec_setOutput_refused (hbad : laneOf lane = none ∨ outConfigOf kind fields = none) :
    exec (.setOutput l lane kind fields) s = .next (s.answered l 0x0D#8 (.no .badValue)) := by
  refine congrArg Host.Outcome.next (takeRequest_acts h (Laws.BodyFits.setOutput l lane kind fields rfl rfl) ?_)
  unfold setOutputRequest
  split
  · rename_i hlane hconfig
    exact hbad.elim (fun hno => nomatch hno.symm.trans hlane) (fun hno => nomatch hno.symm.trans hconfig)
  · rfl

theorem exec_setOutput_accepts {o : LaneId} {c : OutConfig} (hlane : laneOf lane = some o) (hc : outConfigOf kind fields = some c) :
    exec (.setOutput l lane kind fields) s = .next
      ((s.acceptOutput o c).answered l 0x0D#8 (.ok ((setupOf s.tu.house s.tick c).chars
        ++ bytesOf 7 ((setupOf s.tu.house s.tick c).effectBoundary s.tick)
        ++ [((s.output o).accept (setupOf s.tu.house s.tick c) s.tick).state.code]))) := by
  refine congrArg Host.Outcome.next (takeRequest_acts h (Laws.BodyFits.setOutput l lane kind fields rfl rfl) ?_)
  simp only [setOutputRequest, hlane, hc, State.acceptOutput, State.modOutput_modLink, State.modLink_output, State.modLink_tu,
    State.modLink_tick, State.modOutput_output_self, OutLane.accept_acceptedBoundary]

end setOutput

/-- Settles O31: SET OUTPUT by its lane and the configuration its fields name, and what each kind's fields name. -/
theorem setOutputCutsLane : Obligations.SetOutputCutsLane := by
  refine ⟨fun l lane kind fields s htakes => ⟨fun o c hlane hc => ?accepted,
      fun hbad => exec_setOutput_refused htakes (hbad.imp_left laneOf_of_le)⟩,
    fun _ _ => ⟨rfl, fun _ _ _ _ => rfl, fun _ _ _ => rfl, fun _ _ _ _ _ => rfl, fun _ _ => rfl⟩,
    fun r ph line => ⟨rfl, fun _ _ => rfl, fun _ _ _ _ => rfl, fun _ _ _ _ => rfl, ?timecodeBoundary⟩,
    fun form rate drop pl du => ⟨?pulseCode, ?pulseCustom, pulseConfigOf_unknown⟩,
    fun cls timeline user origin label value => ⟨fun k u hk hflags hu => ?timecode, timecodeConfigOf_unknown⟩,
    fun sampleRate pull => ⟨fun _ _ => outConfigOf_wordclock, outConfigOf_wordclock_unknown⟩,
    rfl, fun _ _ => outConfigOf_mismatch, rfl, rfl, rfl, rfl⟩
  case accepted =>
    intro su b v
    have hv : (s.output o).accept su s.tick = v := by
      simp only [OutLane.accept, su, setupOf_config]
      rfl
    rw [exec_setOutput_accepts htakes (laneOf_of_toNat_eq hlane) hc, State.acceptOutput, State.modOutput_congr (g := fun _ => v) hv, hv]
  case timecodeBoundary =>
    rintro k d tls u tl rfl
    rfl
  case pulseCode =>
    rintro k rfl hk hdrop
    exact pulseConfigOf_eq (pulseRateOf_code hk) (hdrop.imp_right And.left) (dropFits_of_code hk hdrop)
  case pulseCustom =>
    rintro rfl hleast hmost hdivides rfl
    exact pulseConfigOf_eq (pulseRateOf_custom (customAllowed_iff.mpr ⟨hleast, hmost, hdivides⟩)) (.inl rfl) rfl
  case timecode =>
    have hsource := userSourceOf_eq hu
    refine ⟨?follow, ?ownValid, ?ownInvalid⟩
    case follow =>
      rintro rfl
      exact timecodeConfigOf_follow (origin := origin) hk hflags hsource
    case ownValid =>
      rintro rfl hvalid
      exact (timecodeConfigOf_own hk hflags hsource).trans (if_pos hvalid)
    case ownInvalid =>
      rintro rfl hinvalid
      exact (timecodeConfigOf_own hk hflags hsource).trans (if_neg (Bool.eq_false_iff.mp hinvalid))

/-! ### A lane comes into force, its pulses and its edges (R85, R86, R94) -/

/-- Log entry 4: an event acts where it is due. -/
theorem next_of_due {due : Bool} (h : due = true) (t s : State) :
    (.next (if due then t else s) : Host.Outcome State Fault Refusal) = .next t :=
  congrArg Host.Outcome.next (if_pos h)

/-- Log entry 4: an event that is not due leaves the state as it is. -/
theorem next_of_notDue {due : Bool} (h : due = false) (t s : State) :
    (.next (if due then t else s) : Host.Outcome State Fault Refusal) = .next s :=
  congrArg Host.Outcome.next (if_neg (Bool.eq_false_iff.mp h))

section shapes

variable {v : OutLane} {tl : Option Timeline} {phase : Nat} (hstate : v.state = .running)

include hstate

theorem OutLane.assertPulse_eq {rate : PulseRate} {drop : Bool} {pl du b : Nat}
    (hforce : v.inForce = some ⟨.pulse rate drop pl du, tl, phase⟩) (hnext : v.nextBoundary = some b) :
    v.assertPulse = { v with highUntil := some (b + pl + du), nextBoundary := some (b + rate.period) } := by
  have hshape : v.pulseShape = some (pl, du, rate.period) := OutLane.pulseShape_eq_some.mpr ⟨hstate, rate, drop, tl, phase, hforce, rfl⟩
  simp only [OutLane.assertPulse, hshape, hnext]

theorem OutLane.wordShape_eq {r : RateCode} {d : Bool} {t : OutTimeline} {u : UserSource} {line : Timeline}
    (hforce : v.inForce = some ⟨.timecode r d t u, some line, phase⟩) : v.wordShape = some (line, u) := by
  simp only [OutLane.wordShape, hstate, hforce]

/-- R94: the line rises at the start of the lane's unit, to fall at its middle, and the next unit is the one after it. -/
theorem OutLane.riseEdge_eq {sr : SampleRate} {q : Pull} (hforce : v.inForce = some ⟨.wordclock sr q, tl, phase⟩) :
    v.riseEdge =
      { v with
        highUntil := some ((audioStream sr q phase).fallOf v.unitIndex)
        unitIndex := v.unitIndex + 1
        nextBoundary := some ((audioStream sr q phase).startOf (v.unitIndex + 1)) } := by
  have hstream : v.sampleStream = some (audioStream sr q phase) := by simp only [OutLane.sampleStream, hstate, hforce]
  simp only [OutLane.riseEdge, hstream]

end shapes

theorem audioStream_origin (sr : SampleRate) (q : Pull) (o : Nat) : (audioStream sr q o).origin = o := by
  cases q <;> rfl

section events

variable {s : State} {o : LaneId} (hfull : s.hc.full = false)

include hfull

theorem exec_effectBoundary_due {b : Nat} (hstate : (s.output o).state = .waiting) (hnext : (s.output o).nextBoundary = some b)
    (hb : b ≤ s.tick) : exec (.effectBoundary o) s = .next (s.modOutput o OutLane.comeIntoForce) :=
  next_of_due ((s.effectDue_iff o).mpr ⟨hfull, hstate, b, hnext, hb⟩) _ s

variable {tl : Option Timeline} {phase : Nat} (hstate : (s.output o).state = .running)

include hstate

section pulse

variable {rate : PulseRate} {drop : Bool} {pl du : Nat} (hforce : (s.output o).inForce = some ⟨.pulse rate drop pl du, tl, phase⟩)

include hforce

theorem exec_pulseStart_due {b : Nat} (hnext : (s.output o).nextBoundary = some b) (hb : b + pl ≤ s.tick) :
    exec (.pulseStart o) s = .next (s.modOutput o (fun v =>
      { v with highUntil := some (b + pl + du), nextBoundary := some (b + rate.period) })) := by
  have hdue := (s.pulseStartDue_iff o).mpr ⟨hfull, hstate, rate, drop, pl, du, tl, phase, b, hforce, hnext, hb⟩
  exact (next_of_due hdue _ s).trans
    (congrArg Host.Outcome.next (State.modOutput_congr (OutLane.assertPulse_eq hstate hforce hnext)))

theorem exec_pulseEnd_due {e : Nat} (hhigh : (s.output o).highUntil = some e) (he : e ≤ s.tick) :
    exec (.pulseEnd o) s = .next (s.modOutput o OutLane.dropLine) :=
  next_of_due ((s.pulseEndDue_iff o).mpr ⟨hfull, hstate, rate, drop, pl, du, tl, phase, e, hforce, hhigh, he⟩) _ s

end pulse

section wordclock

variable {sr : SampleRate} {q : Pull} (hforce : (s.output o).inForce = some ⟨.wordclock sr q, tl, phase⟩)

include hforce

theorem exec_wordclockRise_due {b : Nat} (hnext : (s.output o).nextBoundary = some b) (hb : b ≤ s.tick) :
    exec (.wordclockRise o) s = .next (s.modOutput o (fun v =>
      { v with
        highUntil := some ((audioStream sr q phase).fallOf v.unitIndex)
        unitIndex := v.unitIndex + 1
        nextBoundary := some ((audioStream sr q phase).startOf (v.unitIndex + 1)) })) := by
  have hdue := (s.riseDue_iff o).mpr ⟨hfull, hstate, sr, q, tl, phase, b, hforce, hnext, hb⟩
  exact (next_of_due hdue _ s).trans (congrArg Host.Outcome.next (State.modOutput_congr (OutLane.riseEdge_eq hstate hforce)))

theorem exec_wordclockFall_due {e : Nat} (hhigh : (s.output o).highUntil = some e) (he : e ≤ s.tick) :
    exec (.wordclockFall o) s = .next (s.modOutput o OutLane.dropLine) :=
  next_of_due ((s.fallDue_iff o).mpr ⟨hfull, hstate, sr, q, tl, phase, e, hforce, hhigh, he⟩) _ s

end wordclock

/-- R88: a composition that is due, with the fields R89 to R92 give. -/
theorem exec_wordComposition_due {r : RateCode} {d : Bool} {t : OutTimeline} {u : UserSource} {line : Timeline} {b : Nat}
    (hforce : (s.output o).inForce = some ⟨.timecode r d t u, some line, phase⟩) (hnext : (s.output o).nextBoundary = some b)
    (hb : b ≤ s.tick) :
    exec (.wordComposition o) s = .next (s.modOutput o (fun v =>
      { v with
        word := some ⟨s.composedFields line u (s.output o).clapped b,
          crc8 (bitsOfFields (s.composedFields line u (s.output o).clapped b)), b + line.rate.period⟩
        clapped := false
        nextBoundary := some (b + line.rate.period) })) := by
  have hdue := (s.compositionDue_iff o).mpr ⟨hfull, hstate, r, d, t, u, line, phase, b, hforce, hnext, hb⟩
  refine (next_of_due hdue _ s).trans (congrArg Host.Outcome.next ?_)
  simp only [State.composeWord, OutLane.wordShape_eq hstate hforce, hnext]

end events

/-- Settles O32: each event by whether it is due, from the configuration in force. -/
theorem effectBoundaryPulsesAndEdges : Obligations.EffectBoundaryPulsesAndEdges := by
  refine ⟨fun o s => ⟨fun b hfull hstate hnext hb => exec_effectBoundary_due hfull hstate hnext hb, fun h => next_of_notDue h _ s,
      fun rate drop pl du tl phase hstate hforce hfull => ⟨fun b hnext hb => exec_pulseStart_due hfull hstate hforce hnext hb,
        fun e hhigh he => exec_pulseEnd_due hfull hstate hforce hhigh he⟩,
      fun h => next_of_notDue h _ s, fun h => next_of_notDue h _ s⟩,
    fun o s => ⟨fun sr q tl phase hstate hforce hfull => ⟨fun b hnext hb => ?rise,
        fun e hhigh he => exec_wordclockFall_due hfull hstate hforce hhigh he⟩,
      fun h => next_of_notDue h _ s, fun h => next_of_notDue h _ s⟩⟩
  case rise =>
    rw [exec_wordclockRise_due hfull hstate hforce hnext hb]
    simp only [Stream.fallOf, Stream.startOf, audioStream_origin]

/-- Settles O33: the composition by whether it is due, its fields as the model composes them. -/
theorem wordComposedAtBoundary : Obligations.WordComposedAtBoundary := fun _ s =>
  ⟨fun _ _ _ _ _ _ _ hfull hstate hforce hnext hb => exec_wordComposition_due hfull hstate hforce hnext hb,
    fun h => next_of_notDue h _ s⟩

end Sys2Proof.Machine

/-! PROOFS. The take table's records (chapter 06): marks in tick order, the records that look-ups find, the id that ARM gives, and the
ticks of a record in order. -/

namespace Sys2Proof.Machine

open Sys2Proof

/-! ### Marks in tick order (R112) -/

theorem insertMark_perm (m : Mark) (ms : List Mark) : (insertMark m ms).Perm (m :: ms) := by
  induction ms with
  | nil => exact .refl _
  | cons x xs ih =>
    unfold insertMark
    split
    · exact (ih.cons x).trans (.swap m x xs)
    · exact .refl _

@[simp] theorem insertMark_length (m : Mark) (ms : List Mark) : (insertMark m ms).length = ms.length + 1 :=
  (insertMark_perm m ms).length_eq

@[simp] theorem mem_insertMark {k m : Mark} {ms : List Mark} : k ∈ insertMark m ms ↔ k = m ∨ k ∈ ms :=
  (insertMark_perm m ms).mem_iff.trans List.mem_cons

/-- R112: insertion keeps the tick order. -/
theorem insertMark_pairwise {m : Mark} {ms : List Mark} (h : ms.Pairwise (fun a b => a.tick ≤ b.tick)) :
    (insertMark m ms).Pairwise (fun a b => a.tick ≤ b.tick) := by
  induction ms with
  | nil => exact List.pairwise_singleton _ m
  | cons x xs ih =>
    obtain ⟨hx, hxs⟩ := List.pairwise_cons.mp h
    unfold insertMark
    split
    · rename_i hle
      refine List.pairwise_cons.mpr ⟨fun k hk => ?_, ih hxs⟩
      rcases mem_insertMark.mp hk with rfl | hk
      · exact hle
      · exact hx k hk
    · rename_i hlt
      have hmx : m.tick ≤ x.tick := Nat.le_of_not_le hlt
      refine List.pairwise_cons.mpr ⟨fun k hk => ?_, h⟩
      rcases List.mem_cons.mp hk with rfl | hk
      · exact hmx
      · exact hmx.trans (hx k hk)

/-- R112: insertion into marks in tick order stands between the marks at or below the tick and those above. -/
theorem insertMark_eq {m : Mark} {ms : List Mark} (h : ms.Pairwise (fun a b => a.tick ≤ b.tick)) :
    insertMark m ms = ms.filter (fun k => decide (k.tick ≤ m.tick)) ++ m :: ms.filter (fun k => decide (m.tick < k.tick)) := by
  induction ms with
  | nil => rfl
  | cons x xs ih =>
    obtain ⟨hx, hxs⟩ := List.pairwise_cons.mp h
    by_cases hle : x.tick ≤ m.tick
    · have hnlt : ¬ m.tick < x.tick := Nat.not_lt.mpr hle
      simp [insertMark, hle, hnlt, ih hxs]
    · have hlow : xs.filter (fun k => decide (k.tick ≤ m.tick)) = [] :=
        List.filter_eq_nil_iff.mpr fun k hk => by simpa using (Nat.lt_of_not_le hle).trans_le (hx k hk)
      have hhigh : xs.filter (fun k => decide (m.tick < k.tick)) = xs :=
        List.filter_eq_self.mpr fun k hk => by simpa using (Nat.lt_of_not_le hle).trans_le (hx k hk)
      simp [insertMark, hle, Nat.lt_of_not_le hle, hlow, hhigh]

theorem Take.afterMark_stores {t : Take} (h : t.marks.length < 16) (m : Mark) :
    t.afterMark m = { t with marks := insertMark m t.marks } := if_pos h

theorem Take.afterMark_full {t : Take} (h : 16 ≤ t.marks.length) (m : Mark) : t.afterMark m = { t with marksFull := true } :=
  if_neg (Nat.not_lt.mpr h)

/-! ### Records of the table (R98, R105, R137) -/

/-- The lanes of a record's participants. -/
def Take.lanes (t : Take) : List LaneId := t.participants.map Participant.lane

theorem Take.lists_iff {t : Take} {i : LaneId} : t.lists i = true ↔ i ∈ t.lanes := by
  simp [Take.lists, Take.lanes]

theorem Take.modParticipant_lanes (t : Take) (i : LaneId) {f : Participant → Participant} (hf : ∀ p, (f p).lane = p.lane) :
    (t.modParticipant i f).lanes = t.lanes := by
  have hlane (p : Participant) : (if p.lane = i then f p else p).lane = p.lane := by
    split
    · exact hf p
    · rfl
  simp [Take.lanes, Take.modParticipant, hlane]

theorem Take.isOpen_iff {t : Take} : t.isOpen = true ↔ t.state ≠ .closed := by
  simp [Take.isOpen]

section lookups

variable {s : State} {i : LaneId} {t : Take}

theorem State.rollingTakeOf_some (h : s.rollingTakeOf i = some t) : t ∈ s.tt.takes ∧ t.state = .rolling ∧ i ∈ t.lanes := by
  have hfound := List.find?_some h
  rw [Bool.and_eq_true, beq_iff_eq, Take.lists_iff] at hfound
  exact ⟨List.mem_of_find?_eq_some h, hfound⟩

theorem State.rollingTakeOf_none (h : s.rollingTakeOf i = none) (ht : t ∈ s.tt.takes) (hrolls : t.state = .rolling) : i ∉ t.lanes := by
  intro hi
  exact List.find?_eq_none.mp h t ht (by rw [hrolls, Take.lists_iff.mpr hi]; rfl)

/-- R105 check 4: no participant's lane is in a ROLLING take. -/
theorem State.lanesBusy_eq_false : s.lanesBusy t = false ↔ ∀ i, i ∈ t.lanes → s.rollingTakeOf i = none := by
  simp [State.lanesBusy, Take.lanes, Option.isSome_eq_false_iff]

/-- R137: the slate take is a record of the table. -/
theorem State.slateTake_mem (h : s.slateTake = some t) : t ∈ s.tt.takes := by
  have hrolled {k : Take} (hk : k ∈ s.tt.rollOrder.reverse.filterMap s.take?) : k ∈ s.tt.takes := by
    obtain ⟨id, -, hid⟩ := List.mem_filterMap.mp hk
    exact (State.take?_some hid).1
  unfold State.slateTake State.autoSlateTake at h
  split at h
  · dsimp only at h
    split at h
    · exact hrolled (Option.some.inj h ▸ List.mem_of_find?_eq_some ‹_›)
    · exact hrolled (List.mem_of_mem_head? h)
  · exact (State.take?_some h).1

end lookups

/-! ### The id an ARM gives (R101) -/

/-- R101: the id given is the first candidate, counting upward from the counter and wrapping, that no record holds. -/
theorem TakeTable.giveId_spec {tt : TakeTable} (h1 : 1 ≤ tt.nextId) (h2 : tt.nextId ≤ 65535) (hroom : tt.takes.length < 65535) :
    ∃ k, k ≤ tt.takes.length ∧ tt.giveId = (tt.nextId - 1 + k) % 65535 + 1 ∧ tt.giveId ∉ tt.takes.map Take.id ∧
      ∀ j, j < k → (tt.nextId - 1 + j) % 65535 + 1 ∈ tt.takes.map Take.id := by
  obtain ⟨k, hk, hid, hheld, hfree⟩ := freeId_spec (tt.takes.map Take.id) (tt.takes.length + 1) tt.nextId h1 h2
  -- That many different candidates cannot all be held.
  have hlt : k < tt.takes.length + 1 := by
    by_contra hge
    obtain rfl : k = tt.takes.length + 1 := by omega
    have hnodup : ((List.range (tt.takes.length + 1)).map (fun j => (tt.nextId - 1 + j) % 65535 + 1)).Nodup := by
      refine List.Nodup.map_on (fun i hi j hj hij => ?_) List.nodup_range
      rw [List.mem_range] at hi hj
      omega
    have hsub : (List.range (tt.takes.length + 1)).map (fun j => (tt.nextId - 1 + j) % 65535 + 1) ⊆ tt.takes.map Take.id := by
      intro id hmem
      obtain ⟨j, hj, rfl⟩ := List.mem_map.mp hmem
      exact hheld j (List.mem_range.mp hj)
    have hlength := (hnodup.subperm hsub).length_le
    simp only [List.length_map, List.length_range] at hlength
    omega
  refine ⟨k, Nat.le_of_lt_succ hlt, hid, ?_, hheld⟩
  rw [TakeTable.giveId, hid]
  exact hfree hlt

/-! ### The ticks of a record (R98, R107, R112, R119) -/

/-- Two records agree in all that the table's invariants speak of: what differs is participants' flags, rating, collected set or
MARKS_FULL. -/
structure Take.Resembles (k t : Take) : Prop where
  id : k.id = t.id
  state : k.state = t.state
  lanes : k.lanes = t.lanes
  start : k.start = t.start
  clap : k.clap = t.clap
  endTick : k.endTick = t.endTick
  marks : k.marks = t.marks

theorem Take.Resembles.inOrder {k t : Take} {now : Nat} (h : k.Resembles t) (ht : t.InOrder now) : k.InOrder now := by
  unfold Take.InOrder Take.ticksWithin at *
  rwa [h.state, h.start, h.clap, h.endTick, h.marks]

section ticks

variable {t : Take} {now : Nat}

theorem Take.inOrder_armed (hstate : t.state = .armed) :
    t.InOrder now ↔ t.start = none ∧ t.clap = none ∧ t.endTick = none ∧ t.marks = [] := by
  simp only [Take.InOrder, hstate]

theorem Take.inOrder_rolling (hstate : t.state = .rolling) :
    t.InOrder now ↔ t.endTick = none ∧ ∃ a, t.start = some a ∧ t.ticksWithin a now := by
  simp only [Take.InOrder, hstate]

theorem Take.inOrder_ended (hstate : t.state = .cut ∨ t.state = .closed) :
    t.InOrder now ↔ ∃ a e, t.start = some a ∧ t.endTick = some e ∧ e ≤ now ∧ t.ticksWithin a e := by
  rcases hstate with hstate | hstate <;> simp only [Take.InOrder, hstate]

/-- R98: the states a take can have once it has rolled. -/
theorem Take.state_cases (hstate : t.state ≠ .armed) : t.state = .rolling ∨ t.state = .cut ∨ t.state = .closed := by
  cases h : t.state with
  | armed => exact absurd h hstate
  | rolling => exact .inl rfl
  | cut => exact .inr (.inl rfl)
  | closed => exact .inr (.inr rfl)

theorem Take.ticksWithin.mono {a e e' : Nat} (h : t.ticksWithin a e) (he : e ≤ e') : t.ticksWithin a e' := by
  obtain ⟨hae, hclap, hmarks, hsorted⟩ := h
  exact ⟨hae.trans he, fun c hc => ⟨(hclap c hc).1, (hclap c hc).2.trans he⟩, fun m hm => ⟨(hmarks m hm).1, (hmarks m hm).2.trans he⟩,
    hsorted⟩

/-- R112: time going on leaves a record in order. -/
theorem Take.InOrder.mono {later : Nat} (h : t.InOrder now) (hle : now ≤ later) : t.InOrder later := by
  cases hstate : t.state with
  | armed =>
    rw [Take.inOrder_armed hstate] at h ⊢
    exact h
  | rolling =>
    rw [Take.inOrder_rolling hstate] at h ⊢
    obtain ⟨hend, a, ha, hwithin⟩ := h
    exact ⟨hend, a, ha, hwithin.mono hle⟩
  | cut | closed =>
    rw [Take.inOrder_ended (by simp [hstate])] at h ⊢
    obtain ⟨a, e, ha, he, henow, hwithin⟩ := h
    exact ⟨a, e, ha, he, henow.trans hle, hwithin⟩

/-- R105: an ARMED take rolled at a tick that has been reached. -/
theorem Take.InOrder.rolled (h : t.InOrder now) (hstate : t.state = .armed) {start : Nat} (hstart : start ≤ now)
    (parts : List Participant) :
    ({ t with state := .rolling, start := some start, participants := parts } : Take).InOrder now := by
  obtain ⟨-, hclap, hend, hmarks⟩ := (Take.inOrder_armed hstate).mp h
  refine (Take.inOrder_rolling rfl).mpr ⟨hend, start, rfl, hstart, fun c hc => ?_, fun m hm => ?_, ?_⟩
  · exact nomatch hclap.symm.trans hc
  · exact absurd (hmarks ▸ hm) List.not_mem_nil
  · exact hmarks.symm ▸ List.Pairwise.nil

/-- R108: a ROLLING take cut at an end tick that has been reached and that its clap and its marks do not pass. -/
theorem Take.InOrder.ended (h : t.InOrder now) (hstate : t.state = .rolling) {e : Nat}
    (hend : ∀ a, t.start = some a → t.ticksWithin a now → e ≤ now ∧ t.ticksWithin a e) :
    ({ t with state := .cut, endTick := some e } : Take).InOrder now := by
  obtain ⟨-, a, ha, hwithin⟩ := (Take.inOrder_rolling hstate).mp h
  obtain ⟨henow, hfits⟩ := hend a ha hwithin
  exact (Take.inOrder_ended (.inl rfl)).mpr ⟨a, e, ha, rfl, henow, hfits⟩

/-- R109: a CUT take closed. -/
theorem Take.InOrder.closes (h : t.InOrder now) (hstate : t.state = .cut) : ({ t with state := .closed } : Take).InOrder now :=
  (Take.inOrder_ended (.inr rfl)).mpr ((Take.inOrder_ended (.inl hstate)).mp h)

/-- R120: a first clap on a ROLLING take, at or after its start. -/
theorem Take.InOrder.clapped (h : t.InOrder now) (hstate : t.state = .rolling) {stamp : Nat} (hlow : t.start.getD 0 ≤ stamp)
    (hhigh : stamp ≤ now) : ({ t with clap := some stamp } : Take).InOrder now := by
  obtain ⟨hend, a, ha, hanow, -, hmarks, hsorted⟩ := (Take.inOrder_rolling hstate).mp h
  refine (Take.inOrder_rolling (t := { t with clap := some stamp }) hstate).mpr
    ⟨hend, a, ha, hanow, fun c hc => ?_, hmarks, hsorted⟩
  obtain rfl := Option.some.inj hc
  exact ⟨by simpa [ha] using hlow, hhigh⟩

theorem Take.ticksWithin.insertMark {a e : Nat} {m : Mark} (h : t.ticksWithin a e) (hlow : a ≤ m.tick) (hhigh : m.tick ≤ e) :
    ({ t with marks := insertMark m t.marks } : Take).ticksWithin a e := by
  obtain ⟨hae, hclap, hmarks, hsorted⟩ := h
  refine ⟨hae, hclap, fun k hk => ?_, insertMark_pairwise hsorted⟩
  rcases mem_insertMark.mp hk with rfl | hk
  · exact ⟨hlow, hhigh⟩
  · exact hmarks k hk

theorem Take.afterMark_full_resembles (h : ¬ t.marks.length < 16) (m : Mark) : (t.afterMark m).Resembles t := by
  rw [Take.afterMark_full (Nat.le_of_not_lt h)]
  exact ⟨rfl, rfl, rfl, rfl, rfl, rfl, rfl⟩

/-- R112, R113: a mark within a take's range. A lane's mark may stand at the start tick (R117, R118). -/
theorem Take.InOrder.afterMark (h : t.InOrder now) (hstate : t.state ≠ .armed) {m : Mark} (hlow : t.start.getD 0 ≤ m.tick)
    (hhigh : m.tick ≤ max (t.start.getD 0) (t.markBound now)) : (t.afterMark m).InOrder now := by
  by_cases hroom : t.marks.length < 16
  · rw [Take.afterMark_stores hroom]
    rcases Take.state_cases hstate with hrolls | hended
    · obtain ⟨hend, a, ha, hwithin⟩ := (Take.inOrder_rolling hrolls).mp h
      have hanow := hwithin.1
      simp only [ha, Option.getD_some, Take.markBound, hrolls, if_true] at hlow hhigh
      exact (Take.inOrder_rolling (t := { t with marks := insertMark m t.marks }) hrolls).mpr
        ⟨hend, a, ha, hwithin.insertMark hlow (by omega)⟩
    · obtain ⟨a, e, ha, he, henow, hwithin⟩ := (Take.inOrder_ended hended).mp h
      have hae := hwithin.1
      have hstill : t.state ≠ .rolling := fun hrolls => by simp [hrolls] at hended
      simp only [ha, he, Option.getD_some, Take.markBound, if_neg hstill] at hlow hhigh
      exact (Take.inOrder_ended (t := { t with marks := insertMark m t.marks }) hended).mpr
        ⟨a, e, ha, he, henow, hwithin.insertMark hlow (by omega)⟩
  · exact (Take.afterMark_full_resembles hroom m).inOrder h

/-- R119: the end tick of an auto-cut has been reached, and no tick of the take passes it. -/
theorem Take.ticksWithin.autoCutEnd {a stop : Nat} (h : t.ticksWithin a now) (ha : t.start = some a) (hstop : stop ≤ max a now) :
    t.autoCutEnd stop ≤ now ∧ t.ticksWithin a (t.autoCutEnd stop) := by
  obtain ⟨hanow, hclap, hmarks, hsorted⟩ := h
  have hlast : (t.marks.getLast?.map Mark.tick).getD 0 ≤ now := by
    cases hm : t.marks.getLast? with
    | none => exact Nat.zero_le _
    | some m => exact (hmarks m (List.mem_of_getLast? hm)).2
  have hclapnow : t.clap.getD 0 ≤ now := by
    cases hc : t.clap with
    | none => exact Nat.zero_le _
    | some c => exact (hclap c hc).2
  have hbelow (m : Mark) (hm : m ∈ t.marks) : m.tick ≤ (t.marks.getLast?.map Mark.tick).getD 0 := by
    have hne : t.marks ≠ [] := List.ne_nil_of_mem hm
    rw [List.getLast?_eq_some_getLast hne]
    rw [← List.dropLast_append_getLast hne] at hm hsorted
    obtain ⟨-, -, hbeforeLast⟩ := List.pairwise_append.mp hsorted
    rcases List.mem_append.mp hm with hm | hm
    · exact hbeforeLast m hm _ (List.mem_singleton_self _)
    · rw [List.mem_singleton.mp hm]
      rfl
  unfold Take.autoCutEnd
  rw [ha, Option.getD_some]
  refine ⟨by omega, by omega, fun c hc => ⟨(hclap c hc).1, ?_⟩, fun m hm => ⟨(hmarks m hm).1, ?_⟩, hsorted⟩
  · rw [hc, Option.getD_some]
    omega
  · have hmark := hbelow m hm
    omega

end ticks

end Sys2Proof.Machine

/-! PROOFS. The take table at every step (R98 to R112): what a record revised, appended or removed leaves of the ids, the counts, the lanes
and the ticks of the records, and what each operation of each block does to them. -/

namespace Sys2Proof.Machine

open Sys2Proof

/-! ### One record of the table revised -/

/-- From `s` to `u` record `t` of the table has become `f t`; the counts follow it, and it rolls only within the limit of 4 (R105). -/
structure State.Revises (s u : State) (t : Take) (f : Take → Take) : Prop where
  mem : t ∈ s.tt.takes
  takes : u.tt.takes = s.tt.takes.map (fun k => if k.id = t.id then f k else k)
  nextId : u.tt.nextId = s.tt.nextId
  tableCount : u.tt.tableCount = s.tt.tableCount
  openCount : u.tt.openCount + t.isOpen.toNat = s.tt.openCount + (f t).isOpen.toNat
  rollingCount : u.tt.rollingCount + (t.state == .rolling).toNat = s.tt.rollingCount + ((f t).state == .rolling).toNat
  id : (f t).id = t.id
  marks : t.marks.length ≤ 16 → (f t).marks.length ≤ 16
  stays : (f t).isOpen = true → t.isOpen = true
  rolls : (f t).state = .rolling → (t.state = .rolling ∧ (f t).lanes = t.lanes) ∨
    (s.tt.rollingCount ≠ 4 ∧ ∀ i, i ∈ (f t).lanes → s.rollingTakeOf i = none)

section tableInv

variable {s u : State} {t : Take} {f : Take → Take}

/-- A record stands once in the table: those before and after it hold other ids. -/
theorem State.TableInv.split (h : s.TableInv) (ht : t ∈ s.tt.takes) :
    ∃ a b, s.tt.takes = a ++ t :: b ∧ ∀ k, k ∈ a ++ b → k.id ≠ t.id := by
  obtain ⟨a, b, htakes⟩ := List.append_of_mem ht
  refine ⟨a, b, htakes, fun k hk hid => ?_⟩
  have hids := h.ids
  rw [htakes, List.map_append, List.map_cons, List.nodup_middle, List.nodup_cons, ← List.map_append] at hids
  exact hids.1 (List.mem_map.mpr ⟨k, hk, hid⟩)

theorem State.TableInv.eq_of_id (h : s.TableInv) (ht : t ∈ s.tt.takes) {k : Take} (hk : k ∈ s.tt.takes) (hid : k.id = t.id) : k = t :=
  List.inj_on_of_nodup_map h.ids hk ht hid

theorem map_revised {a b : List Take} (hother : ∀ k, k ∈ a ++ b → k.id ≠ t.id) :
    (a ++ t :: b).map (fun k => if k.id = t.id then f k else k) = a ++ f t :: b := by
  have hsame (l : List Take) (hl : l ⊆ a ++ b) : l.map (fun k => if k.id = t.id then f k else k) = l :=
    (List.map_congr_left fun k hk => if_neg (hother k (hl hk))).trans (List.map_id' l)
  simp [hsame a (List.subset_append_left a b), hsame b (List.subset_append_right a b)]

theorem filter_removed {a b : List Take} (hother : ∀ k, k ∈ a ++ b → k.id ≠ t.id) :
    (a ++ t :: b).filter (fun k => k.id ≠ t.id) = a ++ b := by
  have hsame : (a ++ b).filter (fun k => k.id ≠ t.id) = a ++ b := List.filter_eq_self.mpr fun k hk => by simpa using hother k hk
  rw [List.filter_append, List.filter_cons_of_neg (by simp), ← List.filter_append, hsame]

theorem State.TableInv.openCount_pos (h : s.TableInv) (ht : t ∈ s.tt.takes) (hopen : t.isOpen = true) : 0 < s.tt.openCount :=
  h.openTakes.1 ▸ List.countP_pos_iff.mpr ⟨t, ht, hopen⟩

theorem State.TableInv.rollingCount_pos (h : s.TableInv) (ht : t ∈ s.tt.takes) (hrolls : t.state = .rolling) : 0 < s.tt.rollingCount :=
  h.rolling.1 ▸ List.countP_pos_iff.mpr ⟨t, ht, by rw [hrolls]; rfl⟩

theorem State.TableInv.of_tt (h : s.TableInv) (htt : u.tt = s.tt) : u.TableInv := by
  obtain ⟨hids, hrange, hnext, htable, hopen, hrolling, hmarks⟩ := h
  exact ⟨htt ▸ hids, htt ▸ hrange, htt ▸ hnext, htt ▸ htable, htt ▸ hopen, htt ▸ hrolling, htt ▸ hmarks⟩

/-- R98, R100, R105, R112: a record revised keeps the table's ids, counts and limits. -/
theorem State.Revises.tableInv (h : s.Revises u t f) (hs : s.TableInv) : u.TableInv := by
  obtain ⟨a, b, htakes, hother⟩ := hs.split h.mem
  have hu : u.tt.takes = a ++ f t :: b := by rw [h.takes, htakes, map_revised hother]
  have hmem {k : Take} (hk : k ∈ u.tt.takes) : k = f t ∨ k ∈ s.tt.takes := by
    rw [hu] at hk
    rw [htakes]
    simp only [List.mem_append, List.mem_cons] at *
    tauto
  obtain ⟨hopens, hopenLe⟩ := hs.openTakes
  obtain ⟨hcount, hcountLe⟩ := hs.rolling
  refine ⟨?ids, ?range, h.nextId ▸ hs.next, ?table, ⟨?opens, ?opensLe⟩, ⟨?rolling, ?rollingLe⟩, ?marks⟩
  case ids =>
    have hids := hs.ids
    rw [htakes] at hids
    rw [hu]
    simpa [h.id] using hids
  case range =>
    intro k hk
    rcases hmem hk with rfl | hk
    · exact h.id ▸ hs.range t h.mem
    · exact hs.range k hk
  case table =>
    rw [h.tableCount, h.takes, List.length_map]
    exact hs.table
  case opens =>
    have hcounts := h.openCount
    rw [hopens, htakes] at hcounts
    rw [hu]
    simp only [List.countP_append, List.countP_cons, Bool.toNat, Bool.cond_eq_ite] at hcounts ⊢
    omega
  case opensLe =>
    have hcounts := h.openCount
    have hstays : (f t).isOpen.toNat ≤ t.isOpen.toNat := Bool.toNat_le_toNat h.stays
    omega
  case rolling =>
    have hcounts := h.rollingCount
    rw [hcount, htakes] at hcounts
    rw [hu]
    simp only [List.countP_append, List.countP_cons, Bool.toNat, Bool.cond_eq_ite] at hcounts ⊢
    omega
  case rollingLe =>
    have hcounts := h.rollingCount
    by_cases hrolls : (f t).state = .rolling
    · rcases h.rolls hrolls with ⟨hrolled, -⟩ | ⟨hroom, -⟩
      · simp only [hrolls, hrolled] at hcounts
        omega
      · have hone : ((f t).state == TakeState.rolling).toNat ≤ 1 := Bool.toNat_le _
        omega
    · rw [beq_eq_false_iff_ne.mpr hrolls] at hcounts
      simp only [Bool.toNat_false] at hcounts
      omega
  case marks =>
    intro k hk
    rcases hmem hk with rfl | hk
    · exact h.marks (hs.marks t h.mem)
    · exact hs.marks k hk

/-- R105: a record that rolls only on lanes that no ROLLING take lists keeps the ROLLING takes apart. -/
theorem State.Revises.lanesApart (h : s.Revises u t f) (hs : s.TableInv) (hapart : s.LanesApart) : u.LanesApart := by
  have hmem {k : Take} (hk : k ∈ u.tt.takes) : k = f t ∨ k ∈ s.tt.takes ∧ k.id ≠ t.id := by
    rw [h.takes] at hk
    obtain ⟨r, hr, rfl⟩ := List.mem_map.mp hk
    split
    · rename_i hid
      exact .inl (congrArg f (hs.eq_of_id h.mem hr hid))
    · exact .inr ⟨hr, ‹_›⟩
  -- A lane of the revised record is in no other ROLLING take.
  have hfree {k : Take} (hrolls : (f t).state = .rolling) (hk : k ∈ s.tt.takes) (hother : k.id ≠ t.id) (hkrolls : k.state = .rolling)
      {i : LaneId} (hi : i ∈ (f t).lanes) : i ∉ k.lanes := by
    rcases h.rolls hrolls with ⟨hrolled, hlanes⟩ | ⟨-, hnone⟩
    · exact fun hik => hother (hapart k hk t h.mem hkrolls hrolled i (Take.lists_iff.mpr hik) (Take.lists_iff.mpr (hlanes ▸ hi)))
    · exact State.rollingTakeOf_none (hnone i hi) hk hkrolls
  intro k hk r hr hkrolls hrrolls i hki hri
  rw [Take.lists_iff] at hki hri
  rcases hmem hk with rfl | ⟨hk, hkid⟩ <;> rcases hmem hr with rfl | ⟨hr, hrid⟩
  · rfl
  · exact absurd hri (hfree hkrolls hr hrid hrrolls hki)
  · exact absurd hki (hfree hrrolls hk hkid hkrolls hri)
  · exact hapart k hk r hr hkrolls hrrolls i (Take.lists_iff.mpr hki) (Take.lists_iff.mpr hri)

theorem State.Revises.takesInOrder (h : s.Revises u t f) (hs : s.TableInv) (htick : u.tick = s.tick) (horder : s.TakesInOrder)
    (hf : (f t).InOrder s.tick) : u.TakesInOrder := by
  intro k hk
  rw [htick]
  rw [h.takes] at hk
  obtain ⟨r, hr, rfl⟩ := List.mem_map.mp hk
  split
  · rw [hs.eq_of_id h.mem hr ‹_›]
    exact hf
  · exact horder r hr

end tableInv

/-! ### The relation, and the updates that do not touch the table -/

/-- R25: HOUSE_FULL stands only once the count has reached its maximum. -/
def State.FullReached (s : State) : Prop := s.hc.full = true → Config.maxTick ≤ s.tick

/-- From `s` to `t` the tick stands, and the take table keeps its counts and limits, its ROLLING takes apart and its ticks in order. -/
structure State.KeepsTakes (s t : State) : Prop where
  tick : t.tick = s.tick
  full : s.FullReached → t.FullReached
  table : s.TableInv → t.TableInv
  apart : s.TableInv → s.LanesApart → t.LanesApart
  order : s.TableInv → s.FullReached → s.TakesInOrder → t.TakesInOrder

namespace State.KeepsTakes

variable {s t u : State}

theorem refl (s : State) : s.KeepsTakes s := ⟨rfl, id, id, fun _ => id, fun _ _ => id⟩

theorem trans (h : s.KeepsTakes t) (k : t.KeepsTakes u) : s.KeepsTakes u where
  tick := k.tick.trans h.tick
  full := k.full ∘ h.full
  table := k.table ∘ h.table
  apart hs := k.apart (h.table hs) ∘ h.apart hs
  order hs hfull := k.order (h.table hs) (h.full hfull) ∘ h.order hs hfull

protected theorem ite {c : Prop} [Decidable c] (h : s.KeepsTakes t) (k : s.KeepsTakes u) :
    s.KeepsTakes (if c then t else u) := by
  split
  · exact h
  · exact k

/-- What a block answers beside the next state has no part in the relation. -/
theorem ite_fst {β : Type} {c : Prop} [Decidable c] {a b : State × β} (h : s.KeepsTakes a.1) (k : s.KeepsTakes b.1) :
    s.KeepsTakes (if c then a else b).1 := by
  split
  · exact h
  · exact k

/-- An update that leaves the table, the count and HOUSE_FULL as they were. -/
theorem of_eq (htt : t.tt = s.tt := by rfl) (htick : t.hc.tick = s.hc.tick := by rfl) (hfull : t.hc.full = s.hc.full := by rfl) :
    s.KeepsTakes t where
  tick := htick
  full h hf := (h (hfull ▸ hf)).trans_eq htick.symm
  table h := h.of_tt htt
  apart _ h := by
    unfold State.LanesApart
    rwa [htt]
  order _ _ h := by
    unfold State.TakesInOrder State.tick
    rwa [htt, htick]

/-- What an operation does to the table may be judged under the table's invariant. -/
theorem of_tableInv (htick : t.hc.tick = s.hc.tick) (hfull : t.hc.full = s.hc.full) (h : s.TableInv → s.KeepsTakes t) : s.KeepsTakes t where
  tick := htick
  full hf ht := (hf (hfull ▸ ht)).trans_eq htick.symm
  table hs := (h hs).table hs
  apart hs := (h hs).apart hs
  order hs := (h hs).order hs

/-- One record revised, in order where it was in order. -/
theorem of_revises {r : Take} {f : Take → Take} (htick : t.hc.tick = s.hc.tick) (hfull : t.hc.full = s.hc.full)
    (h : s.TableInv → s.Revises t r f) (horder : s.FullReached → r.InOrder s.tick → (f r).InOrder s.tick) : s.KeepsTakes t where
  tick := htick
  full hf ht := (hf (hfull ▸ ht)).trans_eq htick.symm
  table hs := (h hs).tableInv hs
  apart hs := (h hs).lanesApart hs
  order hs hf ho := (h hs).takesInOrder hs htick ho (horder hf (ho r (h hs).mem))

theorem modInput {i : LaneId} {f : InLane → InLane} : s.KeepsTakes (s.modInput i f) := of_eq
theorem modOutput {o : LaneId} {f : OutLane → OutLane} : s.KeepsTakes (s.modOutput o f) := of_eq
theorem modLink {l : LinkId} {f : LinkPort → LinkPort} : s.KeepsTakes (s.modLink l f) := of_eq
theorem post {b : NoticeBody} : s.KeepsTakes (s.post b) := of_eq
theorem markChanged {i : LaneId} : s.KeepsTakes (s.markChanged i) := of_eq

theorem tick_le (h : s.KeepsTakes t) {n : Nat} (hn : n ≤ s.tick) : n ≤ t.tick := hn.trans_eq h.tick.symm

end State.KeepsTakes

/-! ### The Take Table's own operations (R101 to R120) -/

theorem Take.isOpen_congr {k t : Take} (h : k.state = t.state) : k.isOpen = t.isOpen := by
  rw [Take.isOpen, Take.isOpen, h]

/-- One record through an `f` that keeps its id, state and lanes. -/
theorem State.Revises.modTake {s : State} {t : Take} {f : Take → Take} (ht : t ∈ s.tt.takes) (hid : (f t).id = t.id)
    (hstate : (f t).state = t.state) (hlanes : (f t).lanes = t.lanes) (hmarks : t.marks.length ≤ 16 → (f t).marks.length ≤ 16) :
    s.Revises (s.modTake t.id f) t f where
  mem := ht
  takes := rfl
  nextId := rfl
  tableCount := rfl
  openCount := by
    rw [Take.isOpen_congr hstate]
    rfl
  rollingCount := by
    rw [hstate]
    rfl
  id := hid
  marks := hmarks
  stays h := Take.isOpen_congr hstate ▸ h
  rolls hrolls := .inl ⟨hstate ▸ hrolls, hlanes⟩

theorem newTake_inOrder {id : Nat} {scene shot : List Byte} {number : Nat} {l : LinkId} {lanes : List LaneId} {autoRoll autoCut : Bool}
    {now : Nat} : (newTake id scene shot number l lanes autoRoll autoCut).InOrder now := (Take.inOrder_armed rfl).mpr ⟨rfl, rfl, rfl, rfl⟩

/-- R104: eviction takes a collected CLOSED record, and only from a full table. -/
theorem State.evicted_some {s : State} {t : Take} (h : s.evicted = some t) :
    s.tt.tableCount = 64 ∧ t ∈ s.tt.takes ∧ t.state = .closed ∧ t.collected ≠ 0#4 := by
  unfold State.evicted at h
  split at h
  · have hfound := List.find?_some h
    simp only [Take.evictable, Bool.and_eq_true, beq_iff_eq, bne_iff_ne] at hfound
    exact ⟨‹_›, List.mem_of_find?_eq_some h, hfound⟩
  · nomatch h

/-- R112: a mark offered leaves a record's id, state and ticks. -/
theorem Take.afterMark_keeps (t : Take) (m : Mark) :
    (t.afterMark m).id = t.id ∧ (t.afterMark m).state = t.state ∧ (t.afterMark m).start = t.start := by
  unfold Take.afterMark
  split <;> exact ⟨rfl, rfl, rfl⟩

theorem State.offerMark_tt (s : State) (t : Take) (m : Mark) : (s.offerMark t m).tt = (s.modTake t.id (fun k => k.afterMark m)).tt := by
  unfold State.offerMark
  dsimp only
  split <;> rfl

/-- R46: a held change applied leaves the table. -/
theorem State.rollingEnded_tt (s : State) : s.rollingEnded.tt = s.tt := by
  unfold State.rollingEnded
  split
  · split <;> rfl
  · rfl

theorem State.mem_modTake {s : State} {t : Take} (ht : t ∈ s.tt.takes) (f : Take → Take) : f t ∈ (s.modTake t.id f).tt.takes :=
  List.mem_map.mpr ⟨t, ht, if_pos rfl⟩

namespace State.KeepsTakes

variable {s : State} {t : Take}

theorem modTake_resembles {id : Nat} {f : Take → Take} (hf : ∀ k, (f k).Resembles k) : s.KeepsTakes (s.modTake id f) := by
  by_cases hheld : ∃ t ∈ s.tt.takes, t.id = id
  · obtain ⟨t, ht, rfl⟩ := hheld
    exact of_revises rfl rfl
      (fun _ => .modTake ht (hf t).id (hf t).state (hf t).lanes fun h => (hf t).marks ▸ h) fun _ => (hf t).inOrder
  · have hsame : s.tt.takes.map (fun k => if k.id = id then f k else k) = s.tt.takes :=
      (List.map_congr_left fun k hk => if_neg fun hid => hheld ⟨k, hk, hid⟩).trans (List.map_id' _)
    exact of_eq (congrArg (fun l => { s.tt with takes := l }) hsame)

theorem modParticipant {id : Nat} {i : LaneId} {f : Participant → Participant} (hf : ∀ p, (f p).lane = p.lane) :
    s.KeepsTakes (s.modTake id (fun t => t.modParticipant i f)) :=
  modTake_resembles fun k => ⟨rfl, rfl, k.modParticipant_lanes i hf, rfl, rfl, rfl, rfl⟩

/-- R112: a mark offered to a record whose ticks it leaves in order. -/
theorem offerMark {m : Mark} (ht : t ∈ s.tt.takes) (horder : s.FullReached → t.InOrder s.tick → (t.afterMark m).InOrder s.tick) :
    s.KeepsTakes (s.offerMark t m) := by
  have hkeeps : s.KeepsTakes (s.modTake t.id (fun k => k.afterMark m)) := by
    refine of_revises (r := t) (f := fun k => k.afterMark m) rfl rfl (fun _ => ?_) horder
    by_cases hroom : t.marks.length < 16
    · have hstored := Take.afterMark_stores hroom m
      refine .modTake ht ?_ ?_ ?_ fun _ => ?_ <;> rw [hstored]
      · rfl
      · exact (insertMark_length _ _).trans_le hroom
    · have hfull := Take.afterMark_full_resembles hroom m
      exact .modTake ht hfull.id hfull.state hfull.lanes fun h => hfull.marks ▸ h
  exact .ite (hkeeps.trans post) hkeeps

/-- R104, R110: a take that does not roll leaves the table. -/
theorem removeTake {cause : TakeCause} {actor : Origin} (ht : t ∈ s.tt.takes) (hstate : t.state ≠ .rolling) :
    s.KeepsTakes (s.removeTake t cause actor) := by
  have hsub : (s.removeTake t cause actor).tt.takes.Sublist s.tt.takes := List.filter_sublist
  refine ⟨rfl, id, fun hs => ?_, fun _ h k hk r hr => h k (hsub.subset hk) r (hsub.subset hr), fun _ _ h k hk => h k (hsub.subset hk)⟩
  obtain ⟨a, b, htakes, hother⟩ := hs.split ht
  have hleft : (s.removeTake t cause actor).tt.takes = a ++ b := by
    rw [← filter_removed hother, ← htakes]
    rfl
  obtain ⟨hlength, hlengthLe⟩ := hs.table
  obtain ⟨hopens, hopensLe⟩ := hs.openTakes
  obtain ⟨hrolling, hrollingLe⟩ := hs.rolling
  have hstill : (t.state == TakeState.rolling) = false := beq_eq_false_iff_ne.mpr hstate
  refine ⟨hs.ids.sublist (hsub.map _), fun k hk => hs.range k (hsub.subset hk), hs.next, ?table, ?opens, ?rolling,
    fun k hk => hs.marks k (hsub.subset hk)⟩
  case table =>
    rw [hleft]
    rw [htakes] at hlength
    change s.tt.tableCount - 1 = _ ∧ s.tt.tableCount - 1 ≤ 64
    simp only [List.length_append, List.length_cons] at hlength ⊢
    omega
  case opens =>
    rw [hleft]
    rw [htakes] at hopens
    change (if t.state = .closed then s.tt.openCount else s.tt.openCount - 1) = _ ∧
      (if t.state = .closed then s.tt.openCount else s.tt.openCount - 1) ≤ 8
    by_cases hclosed : t.state = .closed
    · have hshut : t.isOpen = false := by simp [Take.isOpen, hclosed]
      simp only [if_pos hclosed, List.countP_append, List.countP_cons, hshut] at hopens ⊢
      exact ⟨hopens, hopensLe⟩
    · have hopen : t.isOpen = true := Take.isOpen_iff.mpr hclosed
      simp only [if_neg hclosed, List.countP_append, List.countP_cons, hopen, if_true] at hopens ⊢
      omega
  case rolling =>
    rw [hleft]
    rw [htakes] at hrolling
    change s.tt.rollingCount = _ ∧ s.tt.rollingCount ≤ 4
    simp only [List.countP_append, List.countP_cons, hstill] at hrolling ⊢
    exact ⟨hrolling, hrollingLe⟩

/-- R101, R104: a record under a free id, ARMED with no mark, appended where table and open takes have room. -/
theorem appendTake (hid : t.id = s.tt.giveId) (hstate : t.state = .armed) (horder : t.InOrder s.tick) (hroom : s.tt.tableCount ≠ 64)
    (hopen : s.tt.openCount ≠ 8) : s.KeepsTakes (s.appendTake t) := by
  have htakes : (s.appendTake t).tt.takes = s.tt.takes ++ [t] := rfl
  have hmem {k : Take} (hk : k ∈ (s.appendTake t).tt.takes) : k ∈ s.tt.takes ∨ k = t := by
    simpa [htakes] using hk
  obtain ⟨-, -, -, hmarks⟩ := (Take.inOrder_armed hstate).mp horder
  refine ⟨rfl, id, fun hs => ?table, fun _ h k hk r hr hkrolls hrrolls => ?apart, fun _ _ h k hk => ?order⟩
  case table =>
    obtain ⟨hlength, hlengthLe⟩ := hs.table
    obtain ⟨hopens, hopensLe⟩ := hs.openTakes
    obtain ⟨hrolling, hrollingLe⟩ := hs.rolling
    obtain ⟨n, -, hgiven, hfree, -⟩ := TakeTable.giveId_spec hs.next.1 hs.next.2 (by omega)
    have hrange : 1 ≤ t.id ∧ t.id ≤ 65535 := by
      rw [hid, hgiven]
      omega
    refine ⟨?ids, fun k hk => ?range, ?next, ?length, ?opens, ?rolling, fun k hk => ?marks⟩
    case ids =>
      rw [htakes, List.map_append, List.map_singleton, ← List.concat_eq_append, List.nodup_concat, hid]
      exact ⟨hfree, hs.ids⟩
    case range =>
      rcases hmem hk with hk | rfl
      · exact hs.range k hk
      · exact hrange
    case next =>
      change 1 ≤ counterAfter t.id ∧ counterAfter t.id ≤ 65535
      unfold counterAfter
      split <;> omega
    case length =>
      change s.tt.tableCount + 1 = (s.tt.takes ++ [t]).length ∧ s.tt.tableCount + 1 ≤ 64
      simp only [List.length_append, List.length_singleton]
      omega
    case opens =>
      change s.tt.openCount + 1 = (s.tt.takes ++ [t]).countP Take.isOpen ∧ s.tt.openCount + 1 ≤ 8
      have hopened : t.isOpen = true := Take.isOpen_iff.mpr (by simp [hstate])
      simp only [List.countP_append, List.countP_singleton, hopened, if_true]
      omega
    case rolling =>
      change s.tt.rollingCount = (s.tt.takes ++ [t]).countP (fun k => k.state == .rolling) ∧ s.tt.rollingCount ≤ 4
      simp only [List.countP_append, List.countP_singleton, hstate]
      exact ⟨hrolling, hrollingLe⟩
    case marks =>
      rcases hmem hk with hk | rfl
      · exact hs.marks k hk
      · simp [hmarks]
  case apart =>
    rcases hmem hk with hk | rfl
    · rcases hmem hr with hr | rfl
      · exact h k hk r hr hkrolls hrrolls
      · exact nomatch hstate.symm.trans hrrolls
    · exact nomatch hstate.symm.trans hkrolls
  case order =>
    rcases hmem hk with hk | rfl
    · exact h k hk
    · exact horder

/-- R105, R106, R115: an ARMED take whose lanes no ROLLING take lists rolls, within the limit of 4, from a tick that has been reached. -/
theorem rollTake {start : Nat} {cause : TakeCause} {actor : Origin} {x : Option LaneId} (ht : t ∈ s.tt.takes) (hstate : t.state = .armed)
    (hlimit : s.tt.rollingCount ≠ 4) (hfree : s.lanesBusy t = false) (hstart : start ≤ s.tick) :
    s.KeepsTakes (s.rollTake t start cause actor x) := by
  have hlanes : (((t.participants.map s.rolledParticipant).map (fun p => if x = some p.lane then { p with runSeen := true } else p)).map
      Participant.lane) = t.lanes := by
    rw [List.map_map, List.map_map, Take.lanes]
    refine List.map_congr_left fun p _ => ?_
    simp only [Function.comp]
    split <;> rfl
  refine of_revises (r := t) (f := fun _ => _) rfl rfl (fun _ =>
    { mem := ht, takes := rfl, nextId := rfl, tableCount := rfl, openCount := ?opens, rollingCount := ?rolls, id := rfl, marks := id
      stays := fun _ => Take.isOpen_iff.mpr (by simp [hstate])
      rolls := fun _ => .inr ⟨hlimit, fun i hi => State.lanesBusy_eq_false.mp hfree i (hlanes ▸ hi)⟩ }) fun _ h => h.rolled hstate hstart _
  case opens =>
    simp only [Take.isOpen, hstate]
    rfl
  case rolls =>
    rw [hstate]
    rfl

theorem rollingEnded : s.KeepsTakes s.rollingEnded :=
  of_eq s.rollingEnded_tt State.KeepsBounds.rollingEnded.tick State.KeepsBounds.rollingEnded.full

/-- R108: a ROLLING take cut at an end tick that has been reached and that none of its ticks passes. -/
theorem cutTake {endTick : Nat} {cause : TakeCause} {actor : Origin} (ht : t ∈ s.tt.takes) (hstate : t.state = .rolling)
    (hend : ∀ a, t.start = some a → t.ticksWithin a s.tick → endTick ≤ s.tick ∧ t.ticksWithin a endTick) :
    s.KeepsTakes (s.cutTake t endTick cause actor) := by
  have hcut (b : NoticeBody) : s.KeepsTakes (((s.modTake t.id (fun _ => { t with state := .cut, endTick := some endTick })).modTt
      (fun tt => { tt with rollingCount := tt.rollingCount - 1 })).post b) := by
    refine of_revises (r := t) (f := fun _ => _) rfl rfl (fun hs =>
      { mem := ht, takes := rfl, nextId := rfl, tableCount := rfl, openCount := ?opens, rollingCount := ?rolls, id := rfl, marks := id
        stays := fun _ => Take.isOpen_iff.mpr (by simp [hstate])
        rolls := nofun }) fun _ h => h.ended hstate hend
    case opens =>
      simp only [Take.isOpen, hstate]
      rfl
    case rolls =>
      have hpos := hs.rollingCount_pos ht hstate
      rw [hstate]
      exact Nat.sub_add_cancel hpos
  exact .ite ((hcut _).trans rollingEnded) (hcut _)

/-- R109: a CUT take closed. -/
theorem closeTake {actor : Origin} (ht : t ∈ s.tt.takes) (hstate : t.state = .cut) : s.KeepsTakes (s.closeTake t actor) := by
  refine of_revises (r := t) (f := fun _ => _) rfl rfl (fun hs =>
    { mem := ht, takes := rfl, nextId := rfl, tableCount := rfl, openCount := ?opens, rollingCount := ?rolls, id := rfl, marks := id
      stays := nofun
      rolls := nofun }) fun _ h => h.closes hstate
  case opens =>
    have hopen : t.isOpen = true := Take.isOpen_iff.mpr (by simp [hstate])
    rw [hopen]
    exact Nat.sub_add_cancel (hs.openCount_pos ht hopen)
  case rolls =>
    rw [hstate]
    rfl

/-! ### Take requests (R102 to R123) -/

theorem armRequest {l : LinkId} {scene shot : List Byte} {number : BitVec 16} {flags count : Byte} {slots : List Byte} :
    s.KeepsTakes (armRequest l scene shot number flags count slots s).1 := by
  unfold Machine.armRequest
  split
  · refine ite_fst (refl s) (ite_fst (refl s) (ite_fst (refl s) ?_))
    split
    · exact refl s
    · rename_i hopen
      split
      · exact refl s
      · rename_i hfull
        dsimp only
        cases hout : s.evicted with
        | none =>
          exact appendTake rfl rfl newTake_inOrder (fun hcount => hfull ⟨hcount, hout⟩) hopen
        | some t =>
          obtain ⟨hcount, hmem, hclosed, -⟩ := State.evicted_some hout
          have hremoved : s.KeepsTakes (s.removeTake t .evict (.link l)) := removeTake hmem (by simp [hclosed])
          refine hremoved.trans (appendTake rfl rfl newTake_inOrder ?_ ?_)
          · change s.tt.tableCount - 1 ≠ 64
            omega
          · change (if t.state = .closed then s.tt.openCount else s.tt.openCount - 1) ≠ 8
            rwa [if_pos hclosed]
  · exact refl s

theorem rollRequest {l : LinkId} {id : BitVec 16} : s.KeepsTakes (rollRequest l id s).1 := by
  unfold Machine.rollRequest
  split
  · exact refl s
  · rename_i t ht
    split
    · exact refl s
    · split
      · exact refl s
      · split
        · exact refl s
        · exact rollTake (State.take?_some ht).1 (Decidable.of_not_not ‹_›) ‹_› (Bool.eq_false_of_not_eq_true ‹_›) le_rfl

theorem cutRequest {l : LinkId} {id : BitVec 16} : s.KeepsTakes (cutRequest l id s).1 := by
  unfold Machine.cutRequest
  split
  · exact refl s
  · rename_i t ht
    split
    · exact refl s
    · exact cutTake (State.take?_some ht).1 (Decidable.of_not_not ‹_›) fun _ _ h => ⟨le_rfl, h⟩

theorem closeRequest {l : LinkId} {id : BitVec 16} : s.KeepsTakes (closeRequest l id s).1 := by
  unfold Machine.closeRequest
  split
  · exact refl s
  · rename_i t ht
    split
    · exact refl s
    · exact closeTake (State.take?_some ht).1 (Decidable.of_not_not ‹_›)

theorem voidRequest {l : LinkId} {id : BitVec 16} : s.KeepsTakes (voidRequest l id s).1 := by
  unfold Machine.voidRequest
  split
  · exact refl s
  · rename_i t ht
    have hremove (hstate : t.state ≠ .rolling) : s.KeepsTakes (s.removeTake t .void (.link l)) :=
      removeTake (State.take?_some ht).1 hstate
    split
    · exact refl s
    · exact hremove (by simp [*])
    · exact hremove (by simp [*])
    · exact ite_fst (hremove (by simp [*])) (refl s)

theorem rateRequest {id : BitVec 16} {rating : Byte} : s.KeepsTakes (rateRequest id rating s).1 := by
  unfold Machine.rateRequest
  split
  · exact refl s
  · split
    · exact refl s
    · exact modTake_resembles fun _ => ⟨rfl, rfl, rfl, rfl, rfl, rfl, rfl⟩

theorem collectRequest {l : LinkId} {id : BitVec 16} : s.KeepsTakes (collectRequest l id s).1 := by
  unfold Machine.collectRequest
  split
  · exact refl s
  · exact ite_fst (refl s) (modTake_resembles fun _ => ⟨rfl, rfl, rfl, rfl, rfl, rfl, rfl⟩)

theorem markRequest {l : LinkId} {id : BitVec 16} {tickMode : Byte} {tick : BitVec 48} {code : Byte} :
    s.KeepsTakes (markRequest l id tickMode tick code s).1 := by
  unfold Machine.markRequest
  split
  · exact refl s
  · rename_i explicit _
    split
    · exact refl s
    · rename_i t ht
      split
      · exact refl s
      · rename_i hstate
        refine ite_fst (refl s) ?_
        dsimp only
        generalize (if explicit = true then tick.toNat else s.tick) = at_
        split
        · exact refl s
        · rename_i hfits
          simp only [Take.markFits, Bool.not_eq_true', Bool.not_eq_false, Bool.and_eq_true, decide_eq_true_eq] at hfits
          exact offerMark (State.take?_some ht).1 fun _ h => h.afterMark hstate hfits.1 (le_max_of_le_right hfits.2)

/-! ### Lane events (R115 to R119) -/

variable {i : LaneId}

/-- R119: the test, made at a stop tick that has been reached or is the take's start. -/
theorem autoCutTest {id stop : Nat} (hstop : ∀ k, k ∈ s.tt.takes → k.id = id → stop ≤ max (k.start.getD 0) s.tick) :
    s.KeepsTakes (s.autoCutTest id stop i) := by
  unfold State.autoCutTest
  split
  · rename_i t ht
    obtain ⟨hmem, hid⟩ := State.take?_some ht
    split
    · rename_i hpasses
      refine cutTake hmem hpasses.1 fun a ha h => h.autoCutEnd ha ?_
      simpa [ha] using hstop t hmem hid
    · exact refl s
  · exact refl s

theorem runStart {stamp : Nat} (hstamp : stamp ≤ s.tick) : s.KeepsTakes (s.runStart i stamp) := by
  unfold State.runStart
  split
  · exact modParticipant fun _ => rfl
  · split
    · exact refl s
    · rename_i t ht
      have hfound := List.find?_some ht
      simp only [Bool.and_eq_true, beq_iff_eq] at hfound
      obtain ⟨⟨harmed, -⟩, -⟩ := hfound
      split
      · exact post
      · split
        · exact post
        · exact rollTake (List.mem_of_find?_eq_some ht) harmed ‹_› (Bool.eq_false_of_not_eq_true ‹_›) hstamp

theorem runStop {stamp : Nat} (hstamp : stamp ≤ s.tick) : s.KeepsTakes (s.runStop i stamp) := by
  unfold State.runStop
  split
  · refine trans (modParticipant (i := i) ?_) (autoCutTest fun _ _ _ => le_max_of_le_right hstamp)
    exact fun _ => rfl
  · exact refl s

/-- R117, R118: a lane's mark on a ROLLING take stands at the larger of its stamp and the start. -/
theorem offerLaneMark {stamp : Nat} {kind : MarkKind} {origin : Origin} {code : Nat} (h : s.rollingTakeOf i = some t)
    (hstamp : stamp ≤ s.tick) : s.KeepsTakes (s.offerMark t ⟨t.laneMarkTick stamp, kind, origin, code⟩) := by
  obtain ⟨hmem, hrolls, -⟩ := State.rollingTakeOf_some h
  refine offerMark hmem fun _ horder => horder.afterMark (by simp [hrolls]) (le_max_right _ _) ?_
  rw [Take.markBound, if_pos hrolls]
  exact max_le (le_max_of_le_right hstamp) (le_max_left _ _)

theorem takeSlip {stamp : Nat} (hstamp : stamp ≤ s.tick) : s.KeepsTakes (s.takeSlip i stamp) := by
  unfold State.takeSlip
  split
  · exact (offerLaneMark ‹_› hstamp).trans (modParticipant fun _ => rfl)
  · exact refl s

/-- R117: a DROPOUT's stop tick is its mark's tick, on the record the mark is offered to. -/
theorem takeDropout {stamp : Nat} (hstamp : stamp ≤ s.tick) : s.KeepsTakes (s.takeDropout i stamp) := by
  refine of_tableInv State.KeepsBounds.takeDropout.tick State.KeepsBounds.takeDropout.full fun hs => ?_
  unfold State.takeDropout
  split
  · rename_i t ht
    have hmark : s.KeepsTakes (s.offerMark t ⟨t.laneMarkTick stamp, .dropout, .lane i, 0⟩) := offerLaneMark ht hstamp
    have hflags := hmark.trans
      (modParticipant (id := t.id) (i := i) (f := fun p => { p with slips := bumpByte p.slips, stopped := true }) fun _ => rfl)
    refine hflags.trans (autoCutTest fun k hk hid => ?_)
    obtain ⟨hmem, -, -⟩ := State.rollingTakeOf_some ht
    obtain ⟨hmarkId, -, hmarkStart⟩ := t.afterMark_keeps ⟨t.laneMarkTick stamp, .dropout, .lane i, 0⟩
    have hmarked := (s.offerMark_tt t ⟨t.laneMarkTick stamp, .dropout, .lane i, 0⟩) ▸ State.mem_modTake hmem _
    have hheld := State.mem_modTake hmarked (fun t => t.modParticipant i (fun p => { p with slips := bumpByte p.slips, stopped := true }))
    rw [hmarkId] at hheld
    rw [(hflags.table hs).eq_of_id hheld hk (hid.trans hmarkId.symm)]
    refine max_le (le_max_of_le_right (hflags.tick_le hstamp)) (le_max_of_le_left ?_)
    exact (congrArg (Option.getD · 0) hmarkStart).ge
  · exact refl s

/-! ### Claps (R120) -/

theorem clapOnTake {stamp : Nat} {source : Origin} (hstamp : s.FullReached → stamp ≤ s.tick) :
    s.KeepsTakes (s.clapOnTake stamp source).1 := by
  unfold State.clapOnTake
  split
  · rename_i t ht
    have hmem := State.slateTake_mem ht
    split
    · rename_i hrolls
      obtain ⟨hstate, hlow⟩ := hrolls
      split
      · exact of_revises (r := t) (f := fun t => { t with clap := some stamp }) rfl rfl (fun _ => .modTake hmem rfl rfl rfl id)
          fun hf h => h.clapped hstate hlow (hstamp hf)
      · refine offerMark hmem fun hf h => h.afterMark (by simp [hstate]) hlow (le_max_of_le_right ?_)
        rw [Take.markBound, if_pos hstate]
        exact hstamp hf
    · exact refl s
  · exact refl s

end State.KeepsTakes

/-! ### Stamps handed on (R59, R73) -/

theorem InLane.dropoutStamp_le (v : InLane) (now : Nat) : v.dropoutStamp now ≤ now := by
  unfold InLane.dropoutStamp
  split
  · unfold stampOf
    omega
  · exact le_rfl

/-- R59: a word's frame starts at or before its arrival. -/
theorem stampOf_lead_le (now lead : Nat) : stampOf ((now : Int) - lead) ≤ now := by
  unfold stampOf
  omega

namespace State.KeepsTakes

variable {s : State} {i : LaneId}

/-! ### House Clock and house timeline: nothing of the table (R25 to R38, R44 to R54) -/

theorem reportReference {old : HouseClock} : s.KeepsTakes (s.reportReference old) := .ite (refl s) post

/-- An update of the clock that counts no tick. -/
theorem modHc {f : HouseClock → HouseClock} (h : s.hc.KeepsCount (f s.hc)) : s.KeepsTakes (s.modHc f) := of_eq rfl h.tick h.full

theorem takeEdge : s.KeepsTakes s.takeEdge := by
  refine .ite (refl s) ?_
  dsimp only
  split
  · exact refl s
  · exact (modHc (.screen _ _)).trans reportReference
  · exact (modHc (.screen _ _)).trans reportReference
  · exact (modHc ⟨rfl, rfl, rfl, id⟩).trans reportReference

theorem laneEdge : s.KeepsTakes (s.laneEdge i) := .ite takeEdge (refl s)

theorem enterHoldover : s.KeepsTakes s.enterHoldover := by
  unfold State.enterHoldover
  split
  · exact trans of_eq reportReference
  · exact trans of_eq reportReference
  · exact refl s
  · exact refl s

theorem laneSilent : s.KeepsTakes (s.laneSilent i) := .ite enterHoldover (refl s)

theorem applyReference {src : RefSource} {r : RateCode} {lp : LoopMode} {field : Option Int} :
    s.KeepsTakes (s.applyReference src r lp field) := trans of_eq reportReference

theorem setReferenceRequest {source rateClass loop trimMode : Byte} {trim : BitVec 16} :
    s.KeepsTakes (setReferenceRequest source rateClass loop trimMode trim s).1 := by
  unfold Machine.setReferenceRequest
  split
  · exact ite_fst applyReference (refl s)
  · exact refl s

theorem setHouse {tl : Timeline} {now : Bool} : s.KeepsTakes (s.setHouse tl now).1 := ite_fst (ite_fst of_eq of_eq) of_eq

theorem setHouseRequest {cls : Byte} {label : LabelField} {atCode : Byte} {tick : BitVec 48} :
    s.KeepsTakes (setHouseRequest cls label atCode tick s).1 := by
  unfold Machine.setHouseRequest
  split
  · exact ite_fst (refl s) setHouse
  · exact refl s

theorem fallDueChange : s.KeepsTakes s.fallDueChange := by
  unfold State.fallDueChange
  split
  · exact .ite of_eq of_eq
  · exact refl s

theorem jamRequest {lane : Byte} : s.KeepsTakes (jamRequest lane s).1 := by
  unfold Machine.jamRequest
  split
  · exact refl s
  · refine ite_fst (refl s) (ite_fst (ite_fst (refl s) ?_) (refl s))
    split
    · exact ite_fst (refl s) of_eq
    · exact refl s

theorem unjamRequest : s.KeepsTakes (unjamRequest s).1 := by
  unfold Machine.unjamRequest
  refine ite_fst (refl s) ?_
  split
  · exact refl s
  · exact of_eq

theorem setAutojamRequest {setting : Byte} : s.KeepsTakes (setAutojamRequest setting s).1 := by
  unfold Machine.setAutojamRequest
  split
  · exact of_eq
  · exact refl s

theorem autoJamTrigger : s.KeepsTakes (s.autoJamTrigger i) := by
  refine .ite ?_ (refl s)
  split
  · exact .ite (refl s) of_eq
  · exact refl s

/-! ### Slate unit (R120, R128 to R143) -/

theorem presentClap {stamp : Nat} {source : Origin} (hstamp : s.FullReached → stamp ≤ s.tick) :
    s.KeepsTakes (s.presentClap stamp source).1 := by
  have hfile : s.KeepsTakes ((s.modSu (fun u => { u with lockout := some stamp })).fileClap stamp source).1 := by
    have hlockout : s.KeepsTakes (s.modSu (fun u => { u with lockout := some stamp })) := of_eq
    unfold State.fileClap
    dsimp only
    split
    all_goals exact (hlockout.trans (clapOnTake (s := s.modSu _) hstamp)).trans of_eq
  have hindicate (u : State) : u.KeepsTakes u.indicateClap := of_eq
  have hburst (u : State) : u.KeepsTakes u.startBurst := .ite of_eq (refl u)
  have hhold (u : State) : u.KeepsTakes (u.startHold stamp) := .ite of_eq (refl u)
  exact ite_fst (((hfile.trans (hindicate _)).trans (hburst _)).trans (hhold _)) (refl s)

/-- R128: a contact's clap is stamped at its closure, which is past when the debounce ends. -/
theorem debounce : s.KeepsTakes (match s.su.contact with
    | .timing c => if s.debounceDue then ((s.setContact .held).presentClap c .contact).1 else s
    | .opened | .held => s) := by
  split
  · rename_i c hc
    split
    · rename_i hdue
      simp only [State.debounceDue, hc, decide_eq_true_eq] at hdue
      have hpast : c ≤ s.tick := (Nat.le_add_right _ _).trans hdue
      exact trans of_eq (presentClap (s := s.setContact .held) fun _ => hpast)
    · exact refl s
  · exact refl s
  · exact refl s

theorem readLooseRequest {clear : Byte} : s.KeepsTakes (readLooseRequest clear s).1 := by
  unfold Machine.readLooseRequest
  split
  · exact refl s
  · exact .ite of_eq (refl s)

theorem setFlashRequest {count : Byte} {onTime : BitVec 24} {duty : Byte} : s.KeepsTakes (setFlashRequest count onTime duty s).1 := by
  unfold Machine.setFlashRequest
  split
  · exact refl s
  · exact of_eq

theorem setSlateRequest {pointer : Byte} {take : BitVec 16} {display lane cycle duty : Byte} {hold : BitVec 24} :
    s.KeepsTakes (setSlateRequest pointer take display lane cycle duty hold s).1 := by
  have hpointer {f : PointerField} : s.KeepsTakes (s.setPointer f) := by cases f <;> exact of_eq
  unfold Machine.setSlateRequest
  split
  · split
    · exact refl s
    · exact hpointer.trans of_eq
  · exact refl s

/-! ### Input lanes (R57 to R79) -/

theorem reportLane {prev now : Tracking} {cause : LaneCause} {lock : Option Int} : s.KeepsTakes (s.reportLane i prev now cause lock) :=
  post.trans markChanged

theorem enterTracking {off : Int} : s.KeepsTakes (s.enterTracking i off) := (modInput.trans reportLane).trans autoJamTrigger

theorem leaveTracking {seeking : Nat} {cause : LaneCause} : s.KeepsTakes (s.leaveTracking i seeking cause) := modInput.trans reportLane

theorem slip {off lock : Int} {stamp : Nat} (hstamp : stamp ≤ s.tick) : s.KeepsTakes (s.slip i off lock stamp) := by
  have htrigger : s.KeepsTakes ((s.count i (fun c => { c with slip := bump c.slip })).autoJamTrigger i) := modInput.trans autoJamTrigger
  have hhanded : s.KeepsTakes (s.slipHandedOn i stamp) := .ite (htrigger.trans (takeSlip (htrigger.tick_le hstamp))) htrigger
  rw [State.slip_eq]
  exact ((hhanded.trans post).trans markChanged).trans modInput

theorem judgeSlip {off : Int} {stamp : Nat} (hstamp : stamp ≤ s.tick) : s.KeepsTakes (s.judgeSlip i off stamp) := by
  unfold State.judgeSlip
  dsimp only
  split
  · exact .ite modInput (.ite (slip hstamp) (refl s))
  · exact modInput

theorem takeRunFlag {run entry : Bool} {stamp : Nat} (hstamp : stamp ≤ s.tick) : s.KeepsTakes (s.takeRunFlag i run entry stamp) := by
  unfold State.takeRunFlag
  dsimp only
  exact trans (.ite (.ite (runStart hstamp) (.ite (runStop hstamp) (refl s))) (refl s)) modInput

/-- R146: the stamp of a lane clap has been reached, also while HOUSE_FULL stands. -/
theorem takeClapFlag {clap entry : Bool} {stamp : Nat} (hstamp : stamp ≤ s.tick) : s.KeepsTakes (s.takeClapFlag i clap entry stamp) := by
  have hclap : s.FullReached → s.clapStamp stamp ≤ s.tick := by
    intro hfull
    unfold State.clapStamp
    split
    · exact hfull ‹_›
    · exact hstamp
  unfold State.takeClapFlag
  dsimp only
  exact trans (.ite (presentClap hclap) (refl s)) modInput

theorem takeFlags {g : GoodArrival} {entry : Bool} (hstamp : stampOf g.tFrame ≤ s.tick) : s.KeepsTakes (s.takeFlags i g entry) := by
  unfold State.takeFlags
  split
  · have hrun {run : Bool} := takeRunFlag (i := i) (run := run) (entry := entry) hstamp
    exact hrun.trans (takeClapFlag (hrun.tick_le hstamp))
  · exact refl s

theorem track {g : GoodArrival} {off : Int} {follows continues : Bool} (hstamp : stampOf g.tFrame ≤ s.tick) :
    s.KeepsTakes (s.track i g off follows continues) := by
  have henter : s.KeepsTakes (s.enterTracking i off) := enterTracking
  have hslip {f : InLane → InLane} : s.KeepsTakes ((s.modInput i f).judgeSlip i off (stampOf g.tFrame)) :=
    modInput.trans (judgeSlip (s := s.modInput i f) hstamp)
  unfold State.track
  dsimp only
  split
  · exact modInput.trans reportLane
  · exact .ite (henter.trans (takeFlags (henter.tick_le hstamp))) modInput
  · exact .ite (hslip.trans (takeFlags (hslip.tick_le hstamp))) (modInput.trans leaveTracking)

theorem goodArrival {g : GoodArrival} {off : Int} {follows : Nat → Bool} (hstamp : stampOf g.tFrame ≤ s.tick) :
    s.KeepsTakes (s.goodArrival i g off follows) := by
  have hedge {f : InLane → InLane} {c : Counters → Counters} : s.KeepsTakes (((s.modInput i f).count i c).laneEdge i) :=
    (modInput.trans modInput).trans laneEdge
  exact hedge.trans (track (hedge.tick_le hstamp))

theorem errorWord : s.KeepsTakes (s.errorWord i) := by
  unfold State.errorWord
  dsimp only
  split
  · exact modInput
  · exact modInput.trans modInput
  · exact .ite (modInput.trans leaveTracking) (modInput.trans modInput)

theorem wordArrives {w : FrameWord} : s.KeepsTakes (s.wordArrives i w) := by
  have hrecord {c : Captured} : s.KeepsTakes (s.recordArrival i c) := modInput
  refine .ite ?_ (refl s)
  dsimp only
  split
  · exact hrecord.trans (goodArrival (stampOf_lead_le _ _))
  all_goals exact hrecord.trans errorWord

theorem edgeArrives : s.KeepsTakes (s.edgeArrives i) := by
  have hrecord {c : Captured} : s.KeepsTakes (s.recordArrival i c) := modInput
  exact .ite (hrecord.trans (goodArrival (stampOf_lead_le _ _))) (refl s)

theorem goSilent {cause : LaneCause} : s.KeepsTakes (s.goSilent i cause) := by
  have hdropout : s.KeepsTakes (s.dropout i) := .ite (((takeDropout (InLane.dropoutStamp_le _ _)).trans post).trans markChanged) (refl s)
  exact ((hdropout.trans modInput).trans reportLane).trans laneSilent

theorem applyInput {set : InSettings} : s.KeepsTakes (s.applyInput i set) := by
  unfold State.applyInput
  exact trans (.ite (refl s) goSilent) modInput

theorem setInputRequest {lane kind cls drop role : Byte} {lead : BitVec 16} {window silence : Byte} {tolerance : BitVec 16} :
    s.KeepsTakes (setInputRequest lane kind cls drop role lead window silence tolerance s).1 := by
  unfold Machine.setInputRequest
  split
  · exact ite_fst (refl s) applyInput
  · exact refl s

theorem readInputRequest {l : LinkId} {lane : Byte} : s.KeepsTakes (readInputRequest l lane s).1 := by
  unfold Machine.readInputRequest
  split <;> exact of_eq

theorem captureRequest {lane mode flush : Byte} : s.KeepsTakes (captureRequest lane mode flush s).1 := by
  unfold Machine.captureRequest
  split <;> exact of_eq

theorem peekRequest {lane count : Byte} : s.KeepsTakes (peekRequest lane count s).1 := by
  unfold Machine.peekRequest
  split
  · exact refl s
  · exact ite_fst (refl s) of_eq

/-! ### The other requests, and taking one (R149, R158, R171 to R180) -/

theorem setOutputRequest {lane kind : Byte} {fields : OutputFields} : s.KeepsTakes (setOutputRequest lane kind fields s).1 := by
  unfold Machine.setOutputRequest
  split <;> exact of_eq

theorem setLinkRequest {l : LinkId} {link : Byte} {divisor : BitVec 16} : s.KeepsTakes (setLinkRequest l link divisor s).1 := by
  unfold Machine.setLinkRequest
  split
  · exact refl s
  · exact ite_fst (refl s) of_eq

theorem setNoticesRequest {l : LinkId} {classes level timeout : Byte} : s.KeepsTakes (setNoticesRequest l classes level timeout s).1 := by
  unfold Machine.setNoticesRequest
  split <;> exact of_eq

theorem foldl {α : Type} {f : State → α → State} (h : ∀ (u : State) (a : α), u.KeepsTakes (f u a)) (as : List α) :
    s.KeepsTakes (as.foldl f s) := by
  induction as generalizing s with
  | nil => exact refl s
  | cons a as ih => exact (h s a).trans ih

/-- R180: DEFAULTS reaches the table only through the lanes it makes SILENT. -/
theorem defaultsRequest {l : LinkId} : s.KeepsTakes (defaultsRequest l s).1 := by
  have hreference : s.KeepsTakes (s.defaultNotices.applyReference .off .f24 .track (some 0)) := trans of_eq applyReference
  have hhouse (u : State) : u.KeepsTakes u.defaultHouse.1 := ite_fst of_eq (ite_fst of_eq (trans of_eq setHouse))
  have hinputs (u : State) : u.KeepsTakes u.defaultInputs := foldl (fun _ _ => applyInput) _
  have houtputs (u : State) : u.KeepsTakes u.defaultOutputs := foldl (fun _ _ => modOutput) _
  have hpanel (u : State) : u.KeepsTakes ((u.acceptFlash factoryFlash).acceptPanel factoryPanel) := of_eq
  have hdivisors (u : State) : u.KeepsTakes (u.defaultDivisors l) := foldl (fun u _ => .ite (refl u) modLink) _
  exact ite_fst (refl s)
    (((((hreference.trans (hhouse _)).trans (hinputs _)).trans (houtputs _)).trans (hpanel _)).trans (hdivisors _))

theorem takeRequest {l : LinkId} {c : Instr} {act : State → State × Reply} (h : ∀ u : State, u.KeepsTakes (act u).1) :
    s.KeepsTakes (takeRequest l c act s) := by
  unfold Machine.takeRequest
  dsimp only
  refine .ite (trans ?_ modLink) (.ite modLink (refl s))
  cases judgedFrame (requestFrame c).1 (requestFrame c).2 with
  | request k body => exact modLink.trans (h _)
  | refusal k code => exact modLink

/-! ### Every command -/

/-- R25: HOUSE_FULL is set only once the count has reached its maximum. -/
theorem setFull (hdue : s.fullDue = true) : s.KeepsTakes s.setFull :=
  ⟨rfl, fun _ _ => (s.fullDue_iff.mp hdue).2, fun h => h.of_tt rfl, fun _ => id, fun _ _ => id⟩

/-- R98 to R126: every command but a start-up and a character sent. -/
theorem exec (c : Instr) (s : State) (hstart : c ≠ .startUp) (hsent : ∀ l, c ≠ .characterSent l) :
    ∃ t, exec c s = .next t ∧ s.KeepsTakes t := by
  cases c with
  | startUp => exact absurd rfl hstart
  | characterSent l => exact absurd rfl (hsent l)
  | status l => exact ⟨_, rfl, takeRequest fun _ => of_eq⟩
  | readClock l | readReference l | readPanel l => exact ⟨_, rfl, takeRequest refl⟩
  | setHouse l r lab at_ tick => exact ⟨_, rfl, takeRequest fun _ => setHouseRequest⟩
  | jam l lane => exact ⟨_, rfl, takeRequest fun _ => jamRequest⟩
  | unjam l => exact ⟨_, rfl, takeRequest fun _ => unjamRequest⟩
  | setAutojam l setting => exact ⟨_, rfl, takeRequest fun _ => setAutojamRequest⟩
  | setReference l source r lp mode trim => exact ⟨_, rfl, takeRequest fun _ => setReferenceRequest⟩
  | setInput l lane kind r drop role lead window silence tolerance => exact ⟨_, rfl, takeRequest fun _ => setInputRequest⟩
  | readInput l lane => exact ⟨_, rfl, takeRequest fun _ => readInputRequest⟩
  | capture l lane mode flush => exact ⟨_, rfl, takeRequest fun _ => captureRequest⟩
  | peek l lane count => exact ⟨_, rfl, takeRequest fun _ => peekRequest⟩
  | setOutput l lane kind fields => exact ⟨_, rfl, takeRequest fun _ => setOutputRequest⟩
  | readOutput l lane => exact ⟨_, rfl, takeRequest fun u => (readOutputRequest_state lane u).symm ▸ refl u⟩
  | arm l scene shot number flags count slots => exact ⟨_, rfl, takeRequest fun _ => armRequest⟩
  | roll l id => exact ⟨_, rfl, takeRequest fun _ => rollRequest⟩
  | cut l id => exact ⟨_, rfl, takeRequest fun _ => cutRequest⟩
  | close l id => exact ⟨_, rfl, takeRequest fun _ => closeRequest⟩
  | void l id => exact ⟨_, rfl, takeRequest fun _ => voidRequest⟩
  | rate l id rating => exact ⟨_, rfl, takeRequest fun _ => rateRequest⟩
  | mark l id mode tick code => exact ⟨_, rfl, takeRequest fun _ => markRequest⟩
  | readTake l id => exact ⟨_, rfl, takeRequest fun u => (readTakeRequest_state id u).symm ▸ refl u⟩
  | listTakes l start => exact ⟨_, rfl, takeRequest fun u => (listTakesRequest_state start u).symm ▸ refl u⟩
  | collect l id => exact ⟨_, rfl, takeRequest fun _ => collectRequest⟩
  | clap l => exact ⟨_, rfl, takeRequest fun u => presentClap fun _ => le_rfl⟩
  | setSlate l pointer id display lane cycle duty hold => exact ⟨_, rfl, takeRequest fun _ => setSlateRequest⟩
  | setFlash l count onTime duty => exact ⟨_, rfl, takeRequest fun _ => setFlashRequest⟩
  | readLoose l clear => exact ⟨_, rfl, takeRequest fun _ => readLooseRequest⟩
  | convert l dir a value b => exact ⟨_, rfl, takeRequest refl⟩
  | setLink l link divisor => exact ⟨_, rfl, takeRequest fun _ => setLinkRequest⟩
  | setNotices l classes level timeout => exact ⟨_, rfl, takeRequest fun _ => setNoticesRequest⟩
  | save l => exact ⟨_, rfl, takeRequest fun u => ite_fst (refl u) (ite_fst (refl u) of_eq)⟩
  | restart l => exact ⟨_, rfl, takeRequest fun u => ite_fst (refl u) (ite_fst (refl u) (refl u))⟩
  | defaults l => exact ⟨_, rfl, takeRequest fun _ => defaultsRequest⟩
  | houseFull =>
    refine ⟨_, rfl, ?_⟩
    split
    · exact setFull ‹_›
    · exact refl s
  | referenceEdge => exact ⟨_, rfl, .ite takeEdge (refl s)⟩
  | lossExpiry => exact ⟨_, rfl, .ite enterHoldover (refl s)⟩
  | staleExpiry => exact ⟨_, rfl, .ite (trans of_eq reportReference) (refl s)⟩
  | pendingChangeDue => exact ⟨_, rfl, .ite fallDueChange (refl s)⟩
  | wordArrival i w => exact ⟨_, rfl, wordArrives⟩
  | pulseEdge i => exact ⟨_, rfl, edgeArrives⟩
  | silenceExpiry i => exact ⟨_, rfl, .ite goSilent (refl s)⟩
  | wordComposition o =>
    refine ⟨_, rfl, .ite ?_ (refl s)⟩
    unfold State.composeWord
    dsimp only
    split <;> exact of_eq
  | debounceExpiry => exact ⟨_, rfl, debounce⟩
  | writeEnd =>
    refine ⟨_, rfl, .ite ?_ (refl s)⟩
    unfold State.endWrite
    split <;> exact of_eq
  | missingExpiry _ | effectBoundary _ | pulseStart _ | pulseEnd _ | wordclockRise _ | wordclockFall _ | contactClose | burstStep
  | burstEnd | holdEnd => exact ⟨_, rfl, .ite of_eq (refl s)⟩
  | contactOpen => exact ⟨_, rfl, of_eq⟩
  | characterReceived l | lineBreak l | breakEnd l | characterTaken l | silenceTimerExpiry l | assemblerRefusal l | feederCharacter l
  | noticeFed l | pauseAsserted l | pauseReleased l | batchExpiry l => exact ⟨_, rfl, modLink⟩

/-- R179: a character sent leaves the table, or brings start-up. -/
theorem sendChar (s : State) (l : LinkId) : s.KeepsTakes (s.sendChar l) ∨ s.sendChar l = s.startUp := by
  unfold State.sendChar
  split
  · dsimp only
    split
    · exact .inr (State.startUp_modLink (s.link l).charSent_pause)
    · exact .inl modLink
  · exact .inl (refl s)

end State.KeepsTakes

section steps

variable {s t : State}

/-- What a command can do to the take table: keep it sound, or be a start-up. -/
theorem exec_keepsTakes {c : Instr} (h : exec c s = .next t) : s.KeepsTakes t ∨ t = s.startUp := by
  by_cases hstart : c = .startUp
  · subst hstart
    exact .inr (Host.Outcome.next.inj h).symm
  by_cases hsent : ∃ l, c = .characterSent l
  · obtain ⟨l, rfl⟩ := hsent
    obtain rfl : s.sendChar l = t := Host.Outcome.next.inj h
    exact State.KeepsTakes.sendChar s l
  · obtain ⟨u, hu, hkeeps⟩ := State.KeepsTakes.exec c s hstart fun l hl => hsent ⟨l, hl⟩
    exact .inl (Host.Outcome.next.inj (hu.symm.trans h) ▸ hkeeps)

/-- What a step can do to the take table: keep it sound, empty it in a start-up, or let one oscillator period pass. -/
theorem step_keepsTakes (h : step s = .next t) : s.KeepsTakes t ∨ t.tt = emptyTable ∨ t = s.oscillate := by
  cases hp : s.pending with
  | cons c rest =>
    have hexec : exec c { s with pending := rest } = .next t := by simpa only [step, hp] using h
    have hrest : s.KeepsTakes { s with pending := rest } := .of_eq
    rcases exec_keepsTakes hexec with hkeeps | rfl
    · exact .inl (hrest.trans hkeeps)
    · exact .inr (.inl rfl)
  | nil =>
    cases hdue : s.dueCommands with
    | cons c rest =>
      rcases exec_keepsTakes ((step_idle_due hp hdue).symm.trans h) with hkeeps | rfl
      · exact .inl hkeeps
      · exact .inr (.inl rfl)
    | nil => exact .inr (.inr (Host.Outcome.next.inj ((step_idle_period hp hdue).symm.trans h)).symm)

/-- R126: an empty table is sound. -/
theorem State.sound_of_empty (h : t.tt = emptyTable) : t.TableInv ∧ t.LanesApart ∧ t.TakesInOrder := by
  refine ⟨⟨?_, ?_, ?_, ?_, ?_, ?_, ?_⟩, ?_, ?_⟩ <;> simp [h, emptyTable, State.LanesApart, State.TakesInOrder]

end steps

/-- Settles O57: a step keeps the table sound, empties it, or lets a period pass that touches none of it. -/
theorem stepKeepsTakeTable : Obligations.StepKeepsTakeTable := by
  intro s t hs hapart hstep
  rcases step_keepsTakes hstep with hkeeps | hempty | rfl
  · exact ⟨hkeeps.table hs, hkeeps.apart hs hapart⟩
  · obtain ⟨htable, happart, -⟩ := State.sound_of_empty hempty
    exact ⟨htable, happart⟩
  · exact ⟨hs.of_tt rfl, hapart⟩

/-- Settles O59: a step keeps every record in order at the tick it leaves; a period lets that tick go on. -/
theorem stepKeepsTakesInOrder : Obligations.StepKeepsTakesInOrder := by
  intro s t hclock hs horder hstep
  rcases step_keepsTakes hstep with hkeeps | hempty | rfl
  · exact hkeeps.order hs (fun hfull => (hclock.full hfull).ge) horder
  · obtain ⟨-, -, hordered⟩ := State.sound_of_empty hempty
    exact hordered
  · obtain ⟨hlow, -, -⟩ := HouseClock.advance_tick_bounds hclock.tick
    exact fun k hk => (horder k hk).mono hlow

end Sys2Proof.Machine

/-! PROOFS. The requests of the take table (R101 to R113, R123) and the lane events that reach its records (R115 to R119), each by the
first check that fails and by what it does where all pass. -/

namespace Sys2Proof.Machine

open Sys2Proof

/-! ### The table's operations out of DONE (R158) -/

section leaveDone

variable (s : State) (l : LinkId) (t : Take)

theorem State.rollTake_leaveDone (start : Nat) (cause : TakeCause) (actor : Origin) (x : Option LaneId) :
    (s.modLink l LinkPort.leaveDone).rollTake t start cause actor x = (s.rollTake t start cause actor x).modLink l LinkPort.leaveDone := by
  simp only [State.rollTake, State.modTake_modLink, State.modTt_modLink, State.post_leaveDone]
  rfl

theorem State.removeTake_leaveDone (cause : TakeCause) (actor : Origin) :
    (s.modLink l LinkPort.leaveDone).removeTake t cause actor = (s.removeTake t cause actor).modLink l LinkPort.leaveDone := by
  simp only [State.removeTake, State.pointerLoses, State.modTt_modLink, State.modSu_modLink, State.post_leaveDone]

theorem State.appendTake_leaveDone :
    (s.modLink l LinkPort.leaveDone).appendTake t = (s.appendTake t).modLink l LinkPort.leaveDone := by
  simp only [State.appendTake, State.modTt_modLink, State.post_leaveDone]

theorem State.closeTake_leaveDone (actor : Origin) :
    (s.modLink l LinkPort.leaveDone).closeTake t actor = (s.closeTake t actor).modLink l LinkPort.leaveDone := by
  simp only [State.closeTake, State.pointerLoses, State.modTake_modLink, State.modTt_modLink, State.modSu_modLink, State.post_leaveDone]

theorem State.modLink_take? (id : Nat) (f : LinkPort → LinkPort) : (s.modLink l f).take? id = s.take? id := rfl

end leaveDone

/-! ### The fields of ARM (R98, R102, R183) -/

theorem textChar_iff {b : Byte} : textChar b = true ↔
    (0x41 ≤ b.toNat ∧ b.toNat ≤ 0x5A) ∨ (0x30 ≤ b.toNat ∧ b.toNat ≤ 0x39) ∨ b = 0x2D#8 ∨ b = 0x2E#8 := by
  simp only [textChar, Bool.or_eq_true, Bool.and_eq_true, decide_eq_true_eq, beq_iff_eq, or_assoc]

/-- R183: a text is what stands before a tail of 0x00. -/
theorem textOf_eq_some {cs text : List Byte} : textOf cs = some text ↔
    (∃ n, cs = text ++ List.replicate n 0#8) ∧ ∀ c, c ∈ text → textChar c = true := by
  constructor
  · intro h
    unfold textOf at h
    dsimp only at h
    split at h
    · rename_i hfits
      obtain rfl := Option.some.inj h
      rw [Bool.and_eq_true, List.all_eq_true, List.all_eq_true] at hfits
      obtain ⟨htext, htail⟩ := hfits
      refine ⟨⟨(cs.dropWhile (· ≠ 0#8)).length, ?_⟩, htext⟩
      rw [← List.eq_replicate_of_mem fun c hc => by simpa using htail c hc, List.takeWhile_append_dropWhile]
    · nomatch h
  · rintro ⟨⟨n, rfl⟩, htext⟩
    have hne (c : Byte) (hc : c ∈ text) : decide (c ≠ 0#8) = true := by
      refine decide_eq_true fun hzero => ?_
      have hchar := htext c hc
      rw [hzero] at hchar
      exact nomatch hchar
    have htail : (List.replicate n 0#8).takeWhile (· ≠ 0#8) = [] ∧ (List.replicate n 0#8).dropWhile (· ≠ 0#8) = List.replicate n 0#8 := by
      cases n <;> simp [List.replicate_succ]
    have htake : (text ++ List.replicate n 0#8).takeWhile (· ≠ 0#8) = text := by
      rw [List.takeWhile_append_of_pos hne, htail.1, List.append_nil]
    have hdrop : (text ++ List.replicate n 0#8).dropWhile (· ≠ 0#8) = List.replicate n 0#8 := by
      rw [List.dropWhile_append_of_pos hne, htail.2]
    have hfits : (text.all textChar && (List.replicate n 0#8).all (· == 0#8)) = true := by
      rw [List.all_eq_true.mpr htext]
      simp
    unfold textOf
    rw [htake, hdrop]
    exact if_pos hfits

theorem laneOf_eq_some {b : Byte} {i : LaneId} : laneOf b = some i ↔ b.toNat = i.val := by
  refine ⟨fun h => ?_, laneOf_of_toNat_eq⟩
  unfold laneOf at h
  split at h
  · exact congrArg Fin.val (Option.some.inj h)
  · nomatch h

theorem mapM_laneOf_eq_some {slots : List Byte} {lanes : List LaneId} :
    slots.mapM laneOf = some lanes ↔ slots.map BitVec.toNat = lanes.map Fin.val := by
  induction slots generalizing lanes with
  | nil => cases lanes <;> simp
  | cons b bs ih =>
    cases lanes with
    | nil => simp [List.mapM_cons, Option.bind_eq_some_iff]
    | cons i is => simp [List.mapM_cons, Option.bind_eq_some_iff, laneOf_eq_some, ih]

theorem participantsOf_eq_some {count : Byte} {slots : List Byte} {lanes : List LaneId} : participantsOf count slots = some lanes ↔
    1 ≤ count.toNat ∧ count.toNat ≤ 8 ∧ (slots.take count.toNat).map BitVec.toNat = lanes.map Fin.val := by
  unfold participantsOf
  split
  · rename_i hcount
    rw [mapM_laneOf_eq_some]
    exact ⟨fun h => ⟨hcount.1, hcount.2, h⟩, fun ⟨_, _, h⟩ => h⟩
  · rename_i hcount
    exact ⟨nofun, fun ⟨hlow, hhigh, _⟩ => absurd ⟨hlow, hhigh⟩ hcount⟩

/-! ### ARM (R101 to R104) -/

/-- R102 check 2: every lane is named once and may be a participant. -/
def State.LanesFit (s : State) (lanes : List LaneId) : Prop :=
  lanes.Nodup ∧ ∀ i, i ∈ lanes → (s.input i).settings.kind = .timecode ∧
    ((s.input i).settings.role = .camera ∨ (s.input i).settings.role = .sound)

/-- R102 check 3: an open take under the scene, shot and take number. -/
def Take.OpenAs (t : Take) (scene shot : List Byte) (number : Nat) : Prop :=
  t.state ≠ .closed ∧ t.scene = scene ∧ t.shot = shot ∧ t.number = number

/-- R104 step 1: the part once ARM has made room in a full table. -/
def State.madeRoom (s : State) (l : LinkId) : State :=
  match s.evicted with
  | some t => s.removeTake t .evict (.link l)
  | none => s

theorem State.lanesFit_iff {s : State} {lanes : List LaneId} :
    (!(lanes.all (fun i => (s.input i).mayParticipate)) || !decide lanes.Nodup) = true ↔ ¬ s.LanesFit lanes := by
  simp only [State.LanesFit, InLane.mayParticipate, ← Bool.not_and, Bool.not_eq_true', ← Bool.not_eq_true, Bool.and_eq_true,
    List.all_eq_true, Bool.or_eq_true, beq_iff_eq, decide_eq_true_eq, and_comm]

theorem State.openAs_iff {s : State} {scene shot : List Byte} {number : Nat} :
    s.tt.takes.any (fun t => t.isOpen && t.scene == scene && t.shot == shot && t.number == number) = true ↔
      ∃ t, t ∈ s.tt.takes ∧ t.OpenAs scene shot number := by
  simp only [List.any_eq_true, Take.OpenAs, Bool.and_eq_true, beq_iff_eq, Take.isOpen_iff, and_assoc]

section arm

variable {l : LinkId} {scene shot : List Byte} {number : BitVec 16} {flags count : Byte} {slots : List Byte} {s : State}

theorem armRequest_leaveDone (k : LinkId) :
    armRequest l scene shot number flags count slots (s.modLink k LinkPort.leaveDone) =
      ((armRequest l scene shot number flags count slots s).1.modLink k LinkPort.leaveDone,
        (armRequest l scene shot number flags count slots s).2) := by
  have hevicted : (s.modLink k LinkPort.leaveDone).evicted = s.evicted := rfl
  unfold armRequest
  split
  · refine ite_leaveDone rfl (ite_leaveDone rfl (ite_leaveDone rfl (ite_leaveDone rfl (ite_leaveDone rfl ?_))))
    dsimp only
    rw [hevicted]
    cases s.evicted with
    | none =>
      simp only [State.appendTake_leaveDone]
      rfl
    | some t =>
      simp only [State.removeTake_leaveDone, State.appendTake_leaveDone]
      rfl
  · rfl

/-- R158: ARM with texts and slots of their lengths, taken. -/
theorem exec_arm (hscene : scene.length = 8) (hshot : shot.length = 4) (hslots : slots.length = 8)
    (h : s.takes l (.arm l scene shot number flags count slots) = true) :
    exec (.arm l scene shot number flags count slots) s =
      .next ((armRequest l scene shot number flags count slots s).1.answered l 0x0F#8
        (armRequest l scene shot number flags count slots s).2) := by
  have hformed : (Instr.arm l scene shot number flags count slots).wellFormed = true := by simp [Instr.wellFormed, hscene, hshot, hslots]
  exact congrArg Host.Outcome.next
    (takeRequest_acts h (Laws.BodyFits.arm l scene shot number flags count slots hformed rfl) (armRequest_leaveDone l))

theorem armRequest_badValue (h : textOf scene = none ∨ textOf scene = some [] ∨ textOf shot = none ∨ participantsOf count slots = none ∨
    number.toNat = 0 ∨ 999 < number.toNat ∨ 3 < flags.toNat) :
    armRequest l scene shot number flags count slots s = (s, .no .badValue) := by
  unfold armRequest
  split
  · rename_i sc sh lanes hsc hsh hlanes
    refine if_pos ?_
    simpa [hsc, hsh, hlanes] using h
  · rfl

variable {sc sh : List Byte} {lanes : List LaneId} (hsc : textOf scene = some sc) (hsh : textOf shot = some sh)
  (hlanes : participantsOf count slots = some lanes) (hfields : ¬ (sc = [] ∨ number.toNat = 0 ∨ 999 < number.toNat ∨ 3 < flags.toNat))

include hsc hsh hlanes hfields

theorem armRequest_badParticipant (hfits : ¬ s.LanesFit lanes) :
    armRequest l scene shot number flags count slots s = (s, .no .badParticipant) := by
  simp only [armRequest, hsc, hsh, hlanes]
  rw [if_neg hfields, if_pos (State.lanesFit_iff.mpr hfits)]

variable (hfits : s.LanesFit lanes)

include hfits

theorem armRequest_duplicate (hheld : ∃ t, t ∈ s.tt.takes ∧ t.OpenAs sc sh number.toNat) :
    armRequest l scene shot number flags count slots s = (s, .no .duplicate) := by
  simp only [armRequest, hsc, hsh, hlanes]
  rw [if_neg hfields, if_neg (not_not_intro hfits ∘ State.lanesFit_iff.mp), if_pos (State.openAs_iff.mpr hheld)]

variable (hnew : ¬ ∃ t, t ∈ s.tt.takes ∧ t.OpenAs sc sh number.toNat)

include hnew

theorem armRequest_openFull (hopen : s.tt.openCount = 8) : armRequest l scene shot number flags count slots s = (s, .no .openFull) := by
  simp only [armRequest, hsc, hsh, hlanes]
  rw [if_neg hfields, if_neg (not_not_intro hfits ∘ State.lanesFit_iff.mp), if_neg (hnew ∘ State.openAs_iff.mp), if_pos hopen]

variable (hopen : s.tt.openCount ≠ 8)

include hopen

theorem armRequest_tableFull (hfull : s.tt.tableCount = 64 ∧ s.evicted = none) :
    armRequest l scene shot number flags count slots s = (s, .no .tableFull) := by
  simp only [armRequest, hsc, hsh, hlanes]
  rw [if_neg hfields, if_neg (not_not_intro hfits ∘ State.lanesFit_iff.mp), if_neg (hnew ∘ State.openAs_iff.mp), if_neg hopen, if_pos hfull]

/-- R104: the new record under the free id, in the room made for it. -/
theorem armRequest_appends (hroom : ¬ (s.tt.tableCount = 64 ∧ s.evicted = none)) :
    armRequest l scene shot number flags count slots s =
      ((s.madeRoom l).appendTake
          (newTake (s.madeRoom l).tt.giveId sc sh number.toNat l lanes (flags.getLsbD 0) (flags.getLsbD 1)),
        .ok (bytesOf 2 (s.madeRoom l).tt.giveId ++ presentOr 2 (bytesOf 2) (s.evicted.map Take.id))) := by
  simp only [armRequest, hsc, hsh, hlanes]
  rw [if_neg hfields, if_neg (not_not_intro hfits ∘ State.lanesFit_iff.mp), if_neg (hnew ∘ State.openAs_iff.mp), if_neg hopen, if_neg hroom]
  rfl

end arm

/-- Settles O34: ARM by the first check that fails, the record appended where all pass, and the forms of its text, slots and id. -/
theorem armAppendsRecord : Obligations.ArmAppendsRecord := by
  refine ⟨fun l scene shot number flags count slots s hscene hshot hslots htakes => ⟨fun hbad => ?bad,
      fun sc sh lanes hsc hsh hlanes hne hlow hhigh hflags => ?checked⟩,
    fun cs text => ?text, fun count slots lanes => participantsOf_eq_some, fun tt hlow hhigh hroom => ?id⟩
  case bad =>
    rw [exec_arm hscene hshot hslots htakes, armRequest_badValue hbad]
  case text =>
    simp only [textOf_eq_some, textChar_iff]
  case id =>
    obtain ⟨k, hk, hgiven, hfree, hheld⟩ := TakeTable.giveId_spec hlow hhigh hroom
    have htaken (id : Nat) : (∃ t : Take, t ∈ tt.takes ∧ t.id = id) ↔ id ∈ tt.takes.map Take.id := List.mem_map.symm
    refine ⟨k, hk, hgiven, fun hk => hfree ?_, fun j hj => (htaken _).mpr (hheld j hj)⟩
    rw [hgiven]
    exact (htaken _).mp hk
  case checked =>
    have hfields : ¬ (sc = [] ∨ number.toNat = 0 ∨ 999 < number.toNat ∨ 3 < flags.toNat) := by
      rintro (h | h | h | h)
      · exact hne h
      all_goals omega
    rw [exec_arm hscene hshot hslots htakes]
    refine ⟨fun hfits => ?_, fun hfits hheld => ?_, fun hfits hnew => ?_⟩
    · rw [armRequest_badParticipant hsc hsh hlanes hfields hfits]
    · rw [armRequest_duplicate hsc hsh hlanes hfields hfits hheld]
    have hnew' : ¬ ∃ t, t ∈ s.tt.takes ∧ t.OpenAs sc sh number.toNat := fun ⟨t, ht, hheld⟩ => hnew t ht hheld
    refine ⟨fun hopen => ?_, fun hopen hcount hnone => ?_, fun hopen hroom => ?_⟩
    · rw [armRequest_openFull hsc hsh hlanes hfields hfits hnew' hopen]
    · rw [armRequest_tableFull hsc hsh hlanes hfields hfits hnew' hopen ⟨hcount, hnone⟩]
    · rw [armRequest_appends hsc hsh hlanes hfields hfits hnew' hopen fun ⟨hcount, hnone⟩ => hroom hcount hnone]
      intro pointerGone u id t
      have hu : s.madeRoom l = u := by
        simp only [u]
        split
        · rename_i k hout
          have hevicted : s.evicted = some k := hout
          obtain ⟨-, -, hclosed, -⟩ := State.evicted_some hevicted
          rw [State.madeRoom, hevicted]
          dsimp only
          rw [State.removeTake, hclosed]
          rfl
        · rename_i hout
          have hevicted : s.evicted = none := hout
          rw [State.madeRoom, hevicted]
      rw [hu]
      rfl

/-! ### ROLL (R105, R106) -/

/-- R106, R115: the participants of a take that rolls, from their lanes as they stand. -/
theorem State.rolledParticipants_eq (s : State) (ps : List Participant) (x : Option LaneId) :
    (ps.map s.rolledParticipant).map (fun p => if x = some p.lane then { p with runSeen := true } else p) =
      ps.map (fun p : Participant =>
        { p with
          rollTag :=
            if (s.input p.lane).settings.kind = .timecode ∧ (s.input p.lane).state = .tracking then
              ((s.input p.lane).good.bind GoodArrival.fields).map WordFields.user
            else none
          runSeen := decide (x = some p.lane) || (p.runSeen || ((s.input p.lane).state == .tracking && (s.input p.lane).runLevel &&
            ((s.input p.lane).settings.role == .camera || (s.input p.lane).settings.role == .sound))) }) := by
  rw [List.map_map]
  refine List.map_congr_left fun p _ => ?_
  by_cases hx : x = some p.lane
  · simp only [Function.comp, State.rolledParticipant, hx, if_true, decide_true, Bool.true_or]
  · have hx' : ¬ x = some (s.rolledParticipant p).lane := hx
    simp only [Function.comp, if_neg hx', decide_eq_false hx, Bool.false_or]
    rfl

section roll

variable {l : LinkId} {id : BitVec 16} {s : State} {t : Take}

theorem rollRequest_leaveDone (k : LinkId) :
    rollRequest l id (s.modLink k LinkPort.leaveDone) =
      ((rollRequest l id s).1.modLink k LinkPort.leaveDone, (rollRequest l id s).2) := by
  simp only [rollRequest, State.modLink_take?, State.rollTake_leaveDone]
  split
  · rfl
  · exact ite_leaveDone rfl (ite_leaveDone rfl (ite_leaveDone rfl rfl))

/-- R158: ROLL, taken. -/
theorem exec_roll (h : s.takes l (.roll l id) = true) :
    exec (.roll l id) s = .next ((rollRequest l id s).1.answered l 0x10#8 (rollRequest l id s).2) :=
  congrArg Host.Outcome.next (takeRequest_acts h (Laws.BodyFits.roll l id rfl rfl) (rollRequest_leaveDone l))

end roll

/-- Settles O35: ROLL by the first check that fails, and the take rolled where all pass. -/
theorem rollStartsTake : Obligations.RollStartsTake := by
  intro l id s htakes
  rw [exec_roll htakes]
  refine ⟨fun hnone => ?_, fun t ht => ?_⟩
  · simp only [rollRequest, hnone]
  obtain ⟨-, hid⟩ := State.take?_some ht
  simp only [rollRequest, ht]
  rw [← hid]
  refine ⟨fun hstate => ?_, fun hstate hlimit => ?_, fun hstate hlimit hbusy => ?_, fun hstate hlimit hfree => ?_⟩
  · rw [if_pos hstate]
  · rw [if_neg (not_not_intro hstate), if_pos hlimit]
  · rw [if_neg (not_not_intro hstate), if_neg hlimit, if_pos hbusy]
  · rw [if_neg (not_not_intro hstate), if_neg hlimit, if_neg (ne_true_of_eq_false hfree), State.rollTake, State.rolledParticipants_eq,
      hstate]
    rfl

/-! ### CUT and the end of rolling (R46, R107, R108) -/

section cut

variable {l : LinkId} {id : BitVec 16} {s : State} {t : Take}

theorem State.rollingEnded_waits (h : s.tu.change = none ∨ ∃ tl, s.tu.change = some ⟨tl, false⟩ ∧ s.tick < tl.origin) :
    s.rollingEnded = s := by
  rcases h with hnone | ⟨tl, hchange, hahead⟩
  · simp only [State.rollingEnded, hnone]
  · simp only [State.rollingEnded, hchange, PendingChange.due, Bool.false_or]
    exact if_neg (by simpa using hahead)

theorem State.rollingEnded_applies {tl : Timeline} {held : Bool} (hchange : s.tu.change = some ⟨tl, held⟩)
    (hdue : held = true ∨ tl.origin ≤ s.tick) :
    s.rollingEnded = { s with tu := { s.tu with change := none } }.applyHouse tl .deferred none := by
  simp only [State.rollingEnded, hchange, PendingChange.due]
  exact if_pos (by simpa using hdue)

/-- R108: a ROLLING take as its cut leaves it, with the rolling count lowered and the notice handed over. -/
def State.takeCut (s : State) (t : Take) (endTick : Nat) (cause : TakeCause) (actor : Origin) : State :=
  { s with tt :=
      { s.tt with
        takes := s.tt.takes.map (fun k : Take => if k.id = t.id then { t with state := .cut, endTick := some endTick } else k)
        rollingCount := s.tt.rollingCount - 1 } }.post
    (.takeState t.id (some .rolling) (some .cut) cause actor t.start (some endTick))

theorem State.cutTake_eq (hstate : t.state = .rolling) (endTick : Nat) (cause : TakeCause) (actor : Origin) :
    s.cutTake t endTick cause actor =
      if s.tt.rollingCount ≤ 1 then (s.takeCut t endTick cause actor).rollingEnded else s.takeCut t endTick cause actor := by
  unfold State.cutTake
  rw [hstate]
  exact if_congr Nat.sub_eq_zero_iff_le rfl rfl

theorem cutRequest_leaveDone (k : LinkId) :
    cutRequest l id (s.modLink k LinkPort.leaveDone) =
      ((cutRequest l id s).1.modLink k LinkPort.leaveDone, (cutRequest l id s).2) := by
  simp only [cutRequest, State.modLink_take?, State.cutTake_leaveDone]
  split
  · rfl
  · exact ite_leaveDone rfl rfl

/-- R158: CUT, taken. -/
theorem exec_cut (h : s.takes l (.cut l id) = true) :
    exec (.cut l id) s = .next ((cutRequest l id s).1.answered l 0x11#8 (cutRequest l id s).2) :=
  congrArg Host.Outcome.next (takeRequest_acts h (Laws.BodyFits.cut l id rfl rfl) (cutRequest_leaveDone l))

end cut

/-- Settles O36: CUT by the first check that fails, the take cut, and a held change applied where rolling ends with it due. -/
theorem cutEndsTake : Obligations.CutEndsTake := by
  refine ⟨fun s => ⟨State.rollingEnded_waits, fun tl held => State.rollingEnded_applies⟩, fun l id s htakes => ?_⟩
  rw [exec_cut htakes]
  refine ⟨fun hnone => ?_, fun t ht => ?_⟩
  · simp only [cutRequest, hnone]
  obtain ⟨-, hid⟩ := State.take?_some ht
  simp only [cutRequest, ht]
  rw [← hid]
  refine ⟨fun hstate => ?_, fun hstate => ⟨fun hwaits => ?_, fun tl held hlast hchange hdue => ?_⟩⟩
  · rw [if_pos hstate]
  · rw [if_neg (not_not_intro hstate), State.cutTake_eq hstate]
    split
    · rename_i hlast
      rw [State.rollingEnded_waits (s := s.takeCut t s.tick .cut (.link l)) (hwaits.resolve_left (Nat.not_lt.mpr hlast))]
      rfl
    · rfl
  · rw [if_neg (not_not_intro hstate), State.cutTake_eq hstate, if_pos hlast,
      State.rollingEnded_applies (s := s.takeCut t s.tick .cut (.link l)) hchange hdue]
    rfl

/-! ### CLOSE, VOID, RATE and COLLECT (R109 to R111, R123) -/

section closeVoidRateCollect

variable {l : LinkId} {id : BitVec 16} {s : State}

theorem closeRequest_leaveDone (k : LinkId) :
    closeRequest l id (s.modLink k LinkPort.leaveDone) =
      ((closeRequest l id s).1.modLink k LinkPort.leaveDone, (closeRequest l id s).2) := by
  simp only [closeRequest, State.modLink_take?, State.closeTake_leaveDone]
  split
  · rfl
  · exact ite_leaveDone rfl rfl

/-- R158: CLOSE, taken. -/
theorem exec_close (h : s.takes l (.close l id) = true) :
    exec (.close l id) s = .next ((closeRequest l id s).1.answered l 0x12#8 (closeRequest l id s).2) :=
  congrArg Host.Outcome.next (takeRequest_acts h (Laws.BodyFits.close l id rfl rfl) (closeRequest_leaveDone l))

theorem voidRequest_leaveDone (k : LinkId) :
    voidRequest l id (s.modLink k LinkPort.leaveDone) =
      ((voidRequest l id s).1.modLink k LinkPort.leaveDone, (voidRequest l id s).2) := by
  simp only [voidRequest, State.modLink_take?, State.removeTake_leaveDone]
  split
  · rfl
  · split
    · rfl
    · rfl
    · rfl
    · exact ite_leaveDone rfl rfl

/-- R158: VOID, taken. -/
theorem exec_void (h : s.takes l (.void l id) = true) :
    exec (.void l id) s = .next ((voidRequest l id s).1.answered l 0x13#8 (voidRequest l id s).2) :=
  congrArg Host.Outcome.next (takeRequest_acts h (Laws.BodyFits.void l id rfl rfl) (voidRequest_leaveDone l))

theorem rateRequest_leaveDone (rating : Byte) (k : LinkId) :
    rateRequest id rating (s.modLink k LinkPort.leaveDone) =
      ((rateRequest id rating s).1.modLink k LinkPort.leaveDone, (rateRequest id rating s).2) := by
  simp only [rateRequest, State.modLink_take?]
  split
  · rfl
  · split <;> rfl

/-- R158: RATE, taken. -/
theorem exec_rate {rating : Byte} (h : s.takes l (.rate l id rating) = true) :
    exec (.rate l id rating) s = .next ((rateRequest id rating s).1.answered l 0x14#8 (rateRequest id rating s).2) :=
  congrArg Host.Outcome.next (takeRequest_acts h (Laws.BodyFits.rate l id rating rfl rfl) (rateRequest_leaveDone rating l))

theorem collectRequest_leaveDone (k : LinkId) :
    collectRequest l id (s.modLink k LinkPort.leaveDone) =
      ((collectRequest l id s).1.modLink k LinkPort.leaveDone, (collectRequest l id s).2) := by
  simp only [collectRequest, State.modLink_take?]
  split
  · rfl
  · exact ite_leaveDone rfl rfl

/-- R158: COLLECT, taken. -/
theorem exec_collect (h : s.takes l (.collect l id) = true) :
    exec (.collect l id) s = .next ((collectRequest l id s).1.answered l 0x18#8 (collectRequest l id s).2) :=
  congrArg Host.Outcome.next (takeRequest_acts h (Laws.BodyFits.collect l id rfl rfl) (collectRequest_leaveDone l))

theorem ratingOf_unknown {b : Byte} (h : 2 < b.toNat) : ratingOf b = none := by
  obtain ⟨k, hk⟩ := Nat.exists_eq_add_of_le' h
  rw [ratingOf, hk]
  rfl

end closeVoidRateCollect

/-- Settles O37: each request by the first check that fails, and what it does of the take where all pass. -/
theorem closeVoidRateAndCollect : Obligations.CloseVoidRateAndCollect := by
  refine ⟨fun l id s => ⟨fun htakes => ?close, fun htakes => ?void⟩, fun l id s => ⟨fun rating htakes => ?rate, fun htakes => ?collect⟩,
    rfl, fun _ => ratingOf_unknown, rfl⟩
  case close =>
    rw [exec_close htakes]
    refine ⟨fun hnone => ?_, fun t ht => ?_⟩
    · simp only [closeRequest, hnone]
    obtain ⟨-, hid⟩ := State.take?_some ht
    simp only [closeRequest, ht]
    rw [← hid]
    refine ⟨fun hstate => ?_, fun hstate => ?_⟩
    · rw [if_pos hstate]
    · rw [if_neg (not_not_intro hstate), State.closeTake, hstate]
      rfl
  case void =>
    rw [exec_void htakes]
    refine ⟨fun hnone => ?_, fun t ht => ?_⟩
    · simp only [voidRequest, hnone]
    obtain ⟨-, hid⟩ := State.take?_some ht
    simp only [voidRequest, ht]
    rw [← hid]
    refine ⟨fun hstate => ?_, fun hstate hcollected => ?_, fun hstate => ?_⟩
    · simp only [hstate]
    · simp only [hstate, if_neg hcollected]
    · rcases hstate with hstate | hstate | ⟨hstate, hcollected⟩
      · simp only [hstate, State.removeTake]
        rfl
      · simp only [hstate, State.removeTake]
        rfl
      · simp only [hstate, if_pos hcollected, State.removeTake]
        rfl
  case rate =>
    rw [exec_rate htakes]
    refine ⟨fun hunknown => ?_, fun r hr => ⟨fun hnone => ?_, fun hsome => ?_⟩⟩
    · simp only [rateRequest, hunknown]
    · simp only [rateRequest, hr, hnone]
    · obtain ⟨t, ht⟩ := Option.isSome_iff_exists.mp hsome
      obtain ⟨-, hid⟩ := State.take?_some ht
      simp only [rateRequest, hr, ht]
      rw [← hid]
      rfl
  case collect =>
    rw [exec_collect htakes]
    refine ⟨fun hnone => ?_, fun t ht => ?_⟩
    · simp only [collectRequest, hnone]
    obtain ⟨-, hid⟩ := State.take?_some ht
    simp only [collectRequest, ht]
    rw [← hid]
    refine ⟨fun hstate => ?_, fun hstate => ?_⟩
    · rw [if_pos hstate]
    · rw [if_neg (not_not_intro hstate)]
      rfl

/-! ### MARK (R112, R113) -/

section mark

variable {l : LinkId} {id : BitVec 16} {tickMode : Byte} {tick : BitVec 48} {code : Byte} {s : State}

theorem markRequest_leaveDone (k : LinkId) :
    markRequest l id tickMode tick code (s.modLink k LinkPort.leaveDone) =
      ((markRequest l id tickMode tick code s).1.modLink k LinkPort.leaveDone, (markRequest l id tickMode tick code s).2) := by
  simp only [markRequest, State.modLink_take?, State.modLink_tick, State.offerMark_leaveDone]
  split
  · rfl
  · split
    · rfl
    · exact ite_leaveDone rfl (ite_leaveDone rfl (ite_leaveDone rfl rfl))

/-- R158: MARK, taken. -/
theorem exec_mark (h : s.takes l (.mark l id tickMode tick code) = true) :
    exec (.mark l id tickMode tick code) s =
      .next ((markRequest l id tickMode tick code s).1.answered l 0x15#8 (markRequest l id tickMode tick code s).2) :=
  congrArg Host.Outcome.next (takeRequest_acts h (Laws.BodyFits.mark l id tickMode tick code rfl rfl) (markRequest_leaveDone l))

/-- R183: the two codes of a tick field. -/
theorem switchOf_known {b : Byte} (h : b.toNat ≤ 1) : switchOf b = some (decide (b = 1#8)) := by
  rcases Nat.le_one_iff_eq_zero_or_eq_one.mp h with h | h
  · obtain rfl : b = 0#8 := BitVec.eq_of_toNat_eq h
    rfl
  · obtain rfl : b = 1#8 := BitVec.eq_of_toNat_eq h
    rfl

variable {t : Take}

theorem Take.markFits_iff {now tick : Nat} :
    t.markFits now tick = true ↔ t.start.getD 0 ≤ tick ∧ tick ≤ if t.state = .rolling then now else t.endTick.getD now := by
  rw [Take.markFits, Bool.and_eq_true, decide_eq_true_eq, decide_eq_true_eq]
  rfl

theorem State.offerMark_eq (s : State) (t : Take) (m : Mark) :
    s.offerMark t m = if 16 ≤ t.marks.length ∧ t.marksFull = false then
      (s.modTake t.id (fun k => k.afterMark m)).post (.marksFull t.id m.tick m.kind) else s.modTake t.id (fun k => k.afterMark m) := by
  unfold State.offerMark
  simp only [Bool.not_eq_true']

theorem State.offerMark_stores (h : t.marks.length < 16) (m : Mark) : s.offerMark t m = s.modTake t.id (fun k => k.afterMark m) := by
  rw [State.offerMark_eq, if_neg fun hfull => Nat.not_le.mpr h hfull.1]

theorem State.offerMark_full (h : 16 ≤ t.marks.length) (m : Mark) :
    s.offerMark t m = if t.marksFull = true then s.modTake t.id (fun k => k.afterMark m)
      else (s.modTake t.id (fun k => k.afterMark m)).post (.marksFull t.id m.tick m.kind) := by
  rw [State.offerMark_eq]
  cases t.marksFull <;> simp [h]

variable {explicit : Bool} (hmode : switchOf tickMode = some explicit) (ht : s.take? id.toNat = some t) (hstate : t.state ≠ .armed)

include hmode ht hstate

/-- R113: NOW on a take that does not roll, and a tick out of the take's range. -/
theorem markRequest_range
    (hout : (explicit = false ∧ t.state ≠ .rolling) ∨ ¬ t.markFits s.tick (if explicit = true then tick.toNat else s.tick) = true) :
    markRequest l id tickMode tick code s = (s, .no .range) := by
  simp only [markRequest, hmode, ht, if_neg hstate]
  by_cases hnow : explicit = false ∧ t.state ≠ .rolling
  · exact if_pos (by simpa using hnow)
  · rw [if_neg (by simpa using hnow)]
    exact if_pos (by simpa using hout.resolve_left hnow)

theorem markRequest_offers (hnow : explicit = true ∨ t.state = .rolling)
    (hfits : t.markFits s.tick (if explicit = true then tick.toNat else s.tick) = true) :
    markRequest l id tickMode tick code s =
      (s.offerMark t ⟨if explicit = true then tick.toNat else s.tick, .mark, .link l, code.toNat⟩,
        .ok [flagChar (decide (t.marks.length < 16)),
          char (t.afterMark ⟨if explicit = true then tick.toNat else s.tick, .mark, .link l, code.toNat⟩).marks.length,
          flagChar (t.afterMark ⟨if explicit = true then tick.toNat else s.tick, .mark, .link l, code.toNat⟩).marksFull]) := by
  simp only [markRequest, hmode, ht, if_neg hstate]
  rw [if_neg (by simpa using fun hoff => hnow.resolve_left (by simp [hoff])), if_neg (by simpa using hfits)]

end mark

/-- Settles O38: MARK by the first check that fails, a mark offered by the room for it, and the order insertion keeps. -/
theorem markIsStoredInOrder : Obligations.MarkIsStoredInOrder := by
  refine ⟨fun l id tickMode tick code s htakes => ?mark, State.offerMark_eq,
    fun t m => ⟨fun hroom => Take.afterMark_stores hroom m, fun hfull => Take.afterMark_full hfull m⟩,
    fun m ms hsorted => ⟨insertMark_eq hsorted, insertMark_pairwise hsorted⟩⟩
  rw [exec_mark htakes]
  refine ⟨fun hmode => ?_, fun hmode hnone => ?_, fun t hmode ht => ?_⟩
  · simp only [markRequest, switchOf_unknown hmode]
  · simp only [markRequest, switchOf_known hmode, hnone]
  obtain ⟨-, hid⟩ := State.take?_some ht
  have hswitch := switchOf_known hmode
  have hbit : decide (tickMode = 1#8) = true ↔ tickMode = 1#8 := decide_eq_true_iff
  rw [← hid]
  refine ⟨fun hstate => ?_, fun hstate hout => ?_, fun hstate hexplicit hlow hhigh => ?_⟩
  · simp only [markRequest, hswitch, ht, if_pos hstate]
  · rw [markRequest_range hswitch ht hstate]
    simp only [Take.markFits_iff, decide_eq_true_eq, not_and_or, Nat.not_le]
    refine hout.imp_left fun ⟨hnow, hstill⟩ => ⟨decide_eq_false ?_, hstill⟩
    simp [hnow]
  · rw [markRequest_offers hswitch ht hstate (hexplicit.imp_left hbit.mpr)
      (by simpa only [Take.markFits_iff, decide_eq_true_eq] using ⟨hlow, hhigh⟩)]
    simp only [decide_eq_true_eq]
    refine ⟨fun hroom => ?_, fun hfull => ?_⟩
    · rw [State.offerMark_stores hroom, Take.afterMark_stores hroom, decide_eq_true hroom]
      simp only [insertMark_length]
      rfl
    · rw [State.offerMark_full hfull, Take.afterMark_full hfull, decide_eq_false (Nat.not_lt.mpr hfull)]
      rfl

/-! ### Lane events (R115 to R119) -/

section laneEvents

variable {s : State} {i : LaneId} {t : Take} {stamp : Nat}

/-- R115: the take that an auto-roll on lane `i` would roll. -/
def State.autoRollTake (s : State) (i : LaneId) : Option Take :=
  s.tt.takes.find? (fun t => t.state == .armed && t.autoRoll && t.lists i)

theorem autoRolls_iff :
    (t.state == .armed && t.autoRoll && t.lists i) = true ↔ t.state = .armed ∧ t.autoRoll = true ∧ t.lists i = true := by
  rw [Bool.and_eq_true, Bool.and_eq_true, beq_iff_eq, and_assoc]

theorem State.autoRollTake_none (h : ∀ t : Take, t ∈ s.tt.takes → ¬ (t.state = .armed ∧ t.autoRoll = true ∧ t.lists i = true)) :
    s.autoRollTake i = none :=
  List.find?_eq_none.mpr fun t ht => autoRolls_iff.not.mpr (h t ht)

/-- R115: it is the first one in arm order. -/
theorem State.autoRollTake_first {before later : List Take} (htakes : s.tt.takes = before ++ t :: later)
    (hbefore : ∀ k : Take, k ∈ before → ¬ (k.state = .armed ∧ k.autoRoll = true ∧ k.lists i = true))
    (ht : t.state = .armed ∧ t.autoRoll = true ∧ t.lists i = true) : s.autoRollTake i = some t := by
  have hnone : before.find? (fun t => t.state == .armed && t.autoRoll && t.lists i) = none :=
    List.find?_eq_none.mpr fun k hk => autoRolls_iff.not.mpr (hbefore k hk)
  rw [State.autoRollTake, htakes, List.find?_append, hnone, Option.none_or]
  exact List.find?_cons_of_pos (autoRolls_iff.mpr ht)

theorem State.runStart_unlisted (hnone : s.rollingTakeOf i = none) :
    s.runStart i stamp = match s.autoRollTake i with
      | none => s
      | some t =>
        if s.tt.rollingCount = 4 then s.post (.autoRollRefused t.id i .rollLimit)
        else if s.lanesBusy t then s.post (.autoRollRefused t.id i .laneBusy)
        else s.rollTake t stamp .autoRoll (.lane i) (some i) := by
  simp only [State.runStart, hnone]
  rfl

/-- R119: some participant has run, and every one that has run has stopped. -/
theorem Take.autoCutPasses_iff :
    t.autoCutPasses = true ↔ (∃ p, p ∈ t.participants ∧ p.runSeen = true) ∧
      ∀ p, p ∈ t.participants → p.runSeen = true → p.stopped = true := by
  simp only [Take.autoCutPasses, Bool.and_eq_true, List.any_eq_true, List.all_eq_true, Bool.or_eq_true, Bool.not_eq_true',
    ← Bool.not_eq_true, ← imp_iff_not_or]

theorem State.autoCutTest_eq {id stop : Nat} (h : s.take? id = some t) :
    s.autoCutTest id stop i =
      if t.state = .rolling ∧ t.autoCut = true ∧ t.autoCutPasses = true then s.cutTake t (t.autoCutEnd stop) .autoCut (.lane i) else s := by
  simp only [State.autoCutTest, h]

end laneEvents

/-- Settles O39: the events of a lane by the ROLLING take that lists it, the auto-roll where none does, and the auto-cut test. -/
theorem laneEventsReachTakes : Obligations.LaneEventsReachTakes := by
  intro i stamp s
  refine ⟨fun t ht => ⟨?start, ?stop, ?dropout, ?slip⟩, fun hnone => ⟨?_, ?_, ?_, fun hfree => ?_, fun before later t htakes hbefore
    harmed hauto hlists => ?autoRoll⟩, fun id t ht => ⟨fun hfails => ?fails, fun ⟨hrolls, hauto, hpasses⟩ => ?passes⟩⟩
  case autoRoll =>
    rw [State.runStart_unlisted hnone, State.autoRollTake_first htakes hbefore ⟨harmed, hauto, hlists⟩]
    dsimp only
    refine ⟨fun hlimit => ?_, fun hlimit hbusy => ?_, fun hlimit hfree => ?_⟩
    · rw [if_pos hlimit]
    · rw [if_neg hlimit, if_pos hbusy]
    · rw [if_neg hlimit, if_neg (ne_true_of_eq_false hfree), State.rollTake, State.rolledParticipants_eq, harmed]
      simp only [Option.some.injEq, eq_comm (a := i)]
      rfl
  case fails =>
    rw [State.autoCutTest_eq ht, if_neg fun ⟨hrolls, hauto, hpasses⟩ => hfails ⟨hrolls, hauto, Take.autoCutPasses_iff.mp hpasses⟩]
  case passes =>
    rw [State.autoCutTest_eq ht, if_pos ⟨hrolls, hauto, Take.autoCutPasses_iff.mpr hpasses⟩, State.cutTake_eq hrolls]
    rfl
  case start | stop | dropout | slip =>
    simp only [State.runStart, State.runStop, State.takeDropout, State.takeSlip, ht]
    rfl
  · simp only [State.runStop, hnone]
  · simp only [State.takeDropout, hnone]
  · simp only [State.takeSlip, hnone]
  · rw [State.runStart_unlisted hnone, State.autoRollTake_none hfree]

end Sys2Proof.Machine

/-! PROOFS. The Slate Unit (R128 to R144): claps through the lockout, its settings requests, the slate take and the panel, and the events
of the contact, the burst and the hold. -/

namespace Sys2Proof.Machine

open Sys2Proof

/-! ### An accepted clap (R129 to R132) -/

section claps

variable {s : State} {stamp : Nat} {source : Origin} {t : Take}

/-- R129: an accepted clap's stamp is the lockout reference. -/
def State.clapReferenced (s : State) (stamp : Nat) : State := { s with su := { s.su with lockout := some stamp } }

/-- R130 steps 3 to 5: the indication, the burst and the hold of an accepted clap. -/
def State.clapShown (s : State) (stamp : Nat) : State := ((s.indicateClap).startBurst).startHold stamp

theorem State.acceptClap_eq :
    s.acceptClap stamp source =
      ((((s.clapReferenced stamp).fileClap stamp source).1).clapShown stamp, ((s.clapReferenced stamp).fileClap stamp source).2) := rfl

/-- R120: a clap stamped `stamp` finds the take ROLLING and started. -/
def Take.TakesClap (t : Take) (stamp : Nat) : Prop := t.state = .rolling ∧ t.start.getD 0 ≤ stamp

theorem Take.not_takesClap (h : t.state ≠ .rolling ∨ stamp < t.start.getD 0) : ¬ t.TakesClap stamp := fun ⟨hrolls, hstart⟩ =>
  h.elim (· hrolls) (Nat.not_lt.mpr hstart)

theorem State.acceptClap_first (ht : s.slateTake = some t) (htakes : t.TakesClap stamp) (hclap : t.clap = none) :
    s.acceptClap stamp source =
      ((((s.clapReferenced stamp).modTake t.id (fun k => { k with clap := some stamp })).post (.clap t.id stamp source false)).clapShown
        stamp, .first t.id) := by
  have hslate : (s.clapReferenced stamp).slateTake = some t := ht
  have hanswer : (s.clapReferenced stamp).clapOnTake stamp source =
      ((s.clapReferenced stamp).modTake t.id (fun k => { k with clap := some stamp }), .first t.id) := by
    simp only [State.clapOnTake, hslate, hclap]
    exact if_pos htakes
  simp only [State.acceptClap_eq, State.fileClap, hanswer]

theorem State.acceptClap_second (ht : s.slateTake = some t) (htakes : t.TakesClap stamp) (hclap : t.clap ≠ none) :
    s.acceptClap stamp source =
      ((((s.clapReferenced stamp).offerMark t ⟨stamp, .secondClap, source, 0⟩).post (.clap t.id stamp source true)).clapShown stamp,
        .second t.id) := by
  obtain ⟨first, hfirst⟩ := Option.ne_none_iff_exists'.mp hclap
  have hslate : (s.clapReferenced stamp).slateTake = some t := ht
  have hanswer : (s.clapReferenced stamp).clapOnTake stamp source =
      ((s.clapReferenced stamp).offerMark t ⟨stamp, .secondClap, source, 0⟩, .second t.id) := by
    simp only [State.clapOnTake, hslate, hfirst]
    exact if_pos htakes
  simp only [State.acceptClap_eq, State.fileClap, hanswer]

/-- R132: the part with a loose clap in the ring. -/
def State.looseFiled (s : State) (c : LooseClap) : State := { s with su := s.su.addLoose c }

theorem State.acceptClap_loose (h : ∀ t, s.slateTake = some t → ¬ t.TakesClap stamp) :
    let u := (s.clapReferenced stamp).looseFiled ⟨stamp, source⟩
    s.acceptClap stamp source = ((u.post (.looseClap stamp source u.su.ring.length u.su.overwritten)).clapShown stamp, .loose) := by
  have hslate : (s.clapReferenced stamp).slateTake = s.slateTake := rfl
  have hanswer : (s.clapReferenced stamp).clapOnTake stamp source = (s.clapReferenced stamp, .loose) := by
    rw [State.clapOnTake, hslate]
    split
    · exact if_neg (h _ ‹_›)
    · rfl
  simp only [State.acceptClap_eq, State.fileClap, hanswer]
  rfl

/-! ### What an accepted clap starts (R91, R130, R132, R136, R142) -/

theorem State.indicateClap_output (o : LaneId) :
    s.indicateClap.output o = if (s.output o).isTimecode then { s.output o with clapped := true } else s.output o :=
  Eight.get_map _ s.outputs o

theorem State.startBurst_eq :
    s.startBurst = if s.su.burst = none ∧ s.hc.full = false then
      { s with su := { s.su with burst := some (newBurst s.su.flash s.tick) } } else s := by
  unfold State.startBurst
  exact if_congr (and_congr_right' (by rw [Bool.not_eq_true'])) rfl rfl

theorem SlateUnit.addLoose_room {u : SlateUnit} (h : u.ring.length < 8) (c : LooseClap) :
    u.addLoose c = { u with ring := u.ring ++ [c] } := if_neg (Nat.not_le.mpr h)

theorem SlateUnit.addLoose_full {u : SlateUnit} (h : 8 ≤ u.ring.length) (c : LooseClap) :
    u.addLoose c = { u with ring := u.ring.drop 1 ++ [c], overwritten := min 255 (u.overwritten + 1) } := if_pos h

/-! ### Claps out of DONE (R158) -/

/-- An operation that commutes with leaving DONE on any link, its answer the same. -/
def SparesDone {β : Type} (f : State → State × β) : Prop :=
  ∀ (s : State) (l : LinkId), f (s.modLink l LinkPort.leaveDone) = ((f s).1.modLink l LinkPort.leaveDone, (f s).2)

theorem State.clapOnTake_sparesDone : SparesDone fun s => s.clapOnTake stamp source := by
  intro s l
  have hslate : (s.modLink l LinkPort.leaveDone).slateTake = s.slateTake := rfl
  simp only [State.clapOnTake, hslate]
  split
  · split
    · split
      · rfl
      · rw [State.offerMark_leaveDone]
    · rfl
  · rfl

theorem State.fileClap_sparesDone : SparesDone fun s => s.fileClap stamp source := by
  intro s l
  have htable := State.clapOnTake_sparesDone (stamp := stamp) (source := source) s l
  simp only [State.fileClap] at htable ⊢
  rw [htable]
  cases (s.clapOnTake stamp source).2 with
  | first id | second id => simp only [State.post_leaveDone]
  | loose =>
    simp only [State.modSu_modLink, State.post_leaveDone]
    rfl

theorem State.clapShown_leaveDone (l : LinkId) :
    (s.modLink l LinkPort.leaveDone).clapShown stamp = (s.clapShown stamp).modLink l LinkPort.leaveDone := by
  have hburst (u : State) : (u.modLink l LinkPort.leaveDone).startBurst = u.startBurst.modLink l LinkPort.leaveDone :=
    State.ite_modLink l rfl rfl
  have hhold (u : State) : (u.modLink l LinkPort.leaveDone).startHold stamp = (u.startHold stamp).modLink l LinkPort.leaveDone :=
    State.ite_modLink l rfl rfl
  rw [State.clapShown, State.clapShown, ← hhold, ← hburst]
  rfl

theorem State.acceptClap_sparesDone : SparesDone fun s => s.acceptClap stamp source := by
  intro s l
  have hfiled := State.fileClap_sparesDone (stamp := stamp) (source := source) (s.clapReferenced stamp) l
  have hreference : (s.modLink l LinkPort.leaveDone).clapReferenced stamp = (s.clapReferenced stamp).modLink l LinkPort.leaveDone := rfl
  simp only [State.acceptClap_eq, hreference, hfiled, State.clapShown_leaveDone]

theorem clapRequest_sparesDone (l : LinkId) : SparesDone (clapRequest l) := by
  intro s k
  have haccepted := State.acceptClap_sparesDone (stamp := s.tick) (source := .link l) s k
  have haccepts : (s.modLink k LinkPort.leaveDone).su.accepts s.tick = s.su.accepts s.tick := rfl
  simp only [clapRequest, State.presentClap, State.modLink_tick, haccepts] at haccepted ⊢
  cases s.su.accepts s.tick with
  | false => rfl
  | true => simp only [if_true, haccepted]

/-- R158: CLAP, taken. -/
theorem exec_clap {l : LinkId} (h : s.takes l (.clap l) = true) :
    exec (.clap l) s = .next ((clapRequest l s).1.answered l 0x19#8 (clapRequest l s).2) :=
  congrArg Host.Outcome.next (takeRequest_acts h (Laws.BodyFits.clap l rfl rfl) (clapRequest_sparesDone l s l))

theorem exec_clap_ignored {l : LinkId} (h : s.takes l (.clap l) = true) (hnear : ¬ s.su.accepts s.tick = true) :
    exec (.clap l) s = .next (s.answered l 0x19#8 (.ok (clapItems s.tick none))) := by
  rw [exec_clap h]
  simp only [clapRequest, State.presentClap, if_neg hnear]

theorem exec_clap_accepted {l : LinkId} (h : s.takes l (.clap l) = true) (hfar : s.su.accepts s.tick = true) :
    exec (.clap l) s = .next ((s.acceptClap s.tick (.link l)).1.answered l 0x19#8
      (.ok (clapItems s.tick (some (s.acceptClap s.tick (.link l)).2)))) := by
  rw [exec_clap h]
  simp only [clapRequest, State.presentClap, if_pos hfar]

end claps

/-- Settles O43: CLAP by the lockout, an accepted clap by where it is filed, and what it starts. -/
theorem clapIsScreened : Obligations.ClapIsScreened := by
  refine fun l s htakes => ⟨fun r hr hnear => ?ignored, fun hfar => ?accepted,
    fun x => ⟨State.indicateClap_output, State.startBurst_eq, fun stamp => rfl⟩,
    fun u c => ⟨fun hroom => SlateUnit.addLoose_room hroom c, fun hfull => SlateUnit.addLoose_full hfull c⟩,
    fun x stamp source => ⟨fun t ht hrolls hstart hclap => State.acceptClap_first ht ⟨hrolls, hstart⟩ hclap,
      fun t ht hrolls hstart hclap => State.acceptClap_second ht ⟨hrolls, hstart⟩ hclap,
      fun hloose => State.acceptClap_loose fun t ht => Take.not_takesClap (hloose t ht)⟩⟩
  case ignored =>
    rw [exec_clap_ignored htakes fun hfar => Nat.not_le.mpr hnear (s.su.accepts_iff.mp hfar r hr)]
    rfl
  case accepted =>
    rw [exec_clap_accepted htakes (s.su.accepts_iff.mpr hfar)]
    refine ⟨fun t ht hrolls hstart hclap => ?_, fun t ht hrolls hstart hclap => ?_, fun hloose => ?_⟩
    · rw [State.acceptClap_first ht ⟨hrolls, hstart⟩ hclap]
      rfl
    · rw [State.acceptClap_second ht ⟨hrolls, hstart⟩ hclap]
      rfl
    · rw [State.acceptClap_loose fun t ht => Take.not_takesClap (hloose t ht)]
      rfl

/-! ### SET FLASH (R134) -/

theorem dutyCodeOf_unknown {b : Byte} (h : 5 < b.toNat) : dutyCodeOf b = none := by
  obtain ⟨k, hk⟩ := Nat.exists_eq_add_of_le' h
  rw [dutyCodeOf, hk]
  rfl

theorem setFlashRequest_sparesDone (count duty : Byte) (onTime : BitVec 24) : SparesDone (setFlashRequest count onTime duty) := by
  intro s l
  unfold setFlashRequest
  split <;> rfl

/-- R158: SET FLASH, taken. -/
theorem exec_setFlash {l : LinkId} {s : State} {count duty : Byte} {onTime : BitVec 24}
    (h : s.takes l (.setFlash l count onTime duty) = true) :
    exec (.setFlash l count onTime duty) s =
      .next ((setFlashRequest count onTime duty s).1.answered l 0x1C#8 (setFlashRequest count onTime duty s).2) :=
  congrArg Host.Outcome.next
    (takeRequest_acts h (Laws.BodyFits.setFlash l count onTime duty rfl rfl) (setFlashRequest_sparesDone count duty onTime s l))

/-! ### READ LOOSE (R133) -/

theorem readLooseRequest_sparesDone (clear : Byte) : SparesDone (readLooseRequest clear) := by
  intro s l
  unfold readLooseRequest
  split
  · rfl
  · exact Prod.ext (State.ite_modLink l rfl rfl) rfl

/-- R158: READ LOOSE, taken. -/
theorem exec_readLoose {l : LinkId} {s : State} {clear : Byte} (h : s.takes l (.readLoose l clear) = true) :
    exec (.readLoose l clear) s = .next ((readLooseRequest clear s).1.answered l 0x1D#8 (readLooseRequest clear s).2) :=
  congrArg Host.Outcome.next (takeRequest_acts h (Laws.BodyFits.readLoose l clear rfl rfl) (readLooseRequest_sparesDone clear s l))

/-! ### The fields of SET SLATE (R143, R183) -/

theorem pointerFieldOf_unknown {b : Byte} (id : BitVec 16) (h : 2 < b.toNat) : pointerFieldOf b id = none := by
  obtain ⟨k, hk⟩ := Nat.exists_eq_add_of_le' h
  rw [pointerFieldOf, hk]
  rfl

theorem displayOf_unknownKind {kind : Byte} (lane : Byte) (h : 2 < kind.toNat) : displayOf kind lane = none := by
  obtain ⟨k, hk⟩ := Nat.exists_eq_add_of_le' h
  rw [displayOf, hk]
  rfl

/-- R143: a lane above 7 names no display source of a lane's kind. -/
theorem displayOf_unknownLane {kind lane : Byte} (hkind : kind ≠ 0#8) (h : 7 < lane.toNat) : displayOf kind lane = none := by
  have hzero : kind.toNat ≠ 0 := fun h0 => hkind (BitVec.eq_of_toNat_eq h0)
  unfold displayOf
  rw [laneOf_of_le h]
  split
  · exact absurd ‹_› hzero
  all_goals rfl

theorem cycleOf_known {b : Byte} (h : b.toNat ∈ [8, 16, 32, 64]) : cycleOf b = some b.toNat := if_pos (List.contains_iff_mem.mpr h)

theorem cycleOf_unknown {b : Byte} (h : b.toNat ∉ [8, 16, 32, 64]) : cycleOf b = none := if_neg (mt List.contains_iff_mem.mp h)

theorem dutyPercentOf_known {b : Byte} (h : b.toNat ∈ [25, 50, 75]) : dutyPercentOf b = some b.toNat :=
  if_pos (List.contains_iff_mem.mpr h)

theorem dutyPercentOf_unknown {b : Byte} (h : b.toNat ∉ [25, 50, 75]) : dutyPercentOf b = none := if_neg (mt List.contains_iff_mem.mp h)

/-! ### SET SLATE (R143) -/

section setSlate

variable {s : State} {pointer : Byte} {take : BitVec 16} {display lane cycle duty : Byte} {hold : BitVec 24}

theorem setSlateRequest_sparesDone : SparesDone (setSlateRequest pointer take display lane cycle duty hold) := by
  intro s l
  have hrefusal (f : PointerField) : (s.modLink l LinkPort.leaveDone).pointerRefusal f = s.pointerRefusal f := by cases f <;> rfl
  have hpointer (f : PointerField) :
      (s.modLink l LinkPort.leaveDone).setPointer f = (s.setPointer f).modLink l LinkPort.leaveDone := by cases f <;> rfl
  simp only [setSlateRequest, hrefusal, hpointer]
  split
  · split <;> rfl
  · rfl

/-- R158: SET SLATE, taken. -/
theorem exec_setSlate {l : LinkId} (h : s.takes l (.setSlate l pointer take display lane cycle duty hold) = true) :
    exec (.setSlate l pointer take display lane cycle duty hold) s =
      .next ((setSlateRequest pointer take display lane cycle duty hold s).1.answered l 0x1A#8
        (setSlateRequest pointer take display lane cycle duty hold s).2) :=
  congrArg Host.Outcome.next
    (takeRequest_acts h (Laws.BodyFits.setSlate l pointer take display lane cycle duty hold rfl rfl) (setSlateRequest_sparesDone s l))

theorem setSlateRequest_badValue (h : 2 < pointer.toNat ∨ 2 < display.toNat ∨ (display ≠ 0#8 ∧ 7 < lane.toNat) ∨
      cycle.toNat ∉ [8, 16, 32, 64] ∨ duty.toNat ∉ [25, 50, 75]) :
    setSlateRequest pointer take display lane cycle duty hold s = (s, .no .badValue) := by
  unfold setSlateRequest
  split
  · rename_i hf hd hc hdu
    rcases h with h | h | ⟨hkind, hlane⟩ | h | h
    · exact nomatch (pointerFieldOf_unknown take h).symm.trans hf
    · exact nomatch (displayOf_unknownKind lane h).symm.trans hd
    · exact nomatch (displayOf_unknownLane hkind hlane).symm.trans hd
    · exact nomatch (cycleOf_unknown h).symm.trans hc
    · exact nomatch (dutyPercentOf_unknown h).symm.trans hdu
  · rfl

theorem State.pointerRefusal_noTake {id : Nat} (h : s.take? id = none) : s.pointerRefusal (.take id) = some (.no .noTake) := by
  simp only [State.pointerRefusal, h]

theorem State.pointerRefusal_closed {id : Nat} {t : Take} (h : s.take? id = some t) (hclosed : t.state = .closed) :
    s.pointerRefusal (.take id) = some (.refused .wrongState (some .closed)) := by
  simp only [State.pointerRefusal, h, if_pos hclosed]

theorem State.pointerRefusal_open {id : Nat} {t : Take} (h : s.take? id = some t) (hopen : t.state ≠ .closed) :
    s.pointerRefusal (.take id) = none := by
  simp only [State.pointerRefusal, h, if_neg hopen]

variable {f : PointerField} {d : Display} (hf : pointerFieldOf pointer take = some f) (hd : displayOf display lane = some d)
  (hc : cycle.toNat ∈ [8, 16, 32, 64]) (hdu : duty.toNat ∈ [25, 50, 75])

include hf hd hc hdu

theorem setSlateRequest_refused {r : Reply} (hr : s.pointerRefusal f = some r) :
    setSlateRequest pointer take display lane cycle duty hold s = (s, r) := by
  simp only [setSlateRequest, hf, hd, cycleOf_known hc, dutyPercentOf_known hdu, hr]

/-- R143: the pointer set or kept, then the panel settings stored; the response tells both, and the slate take as it is then. -/
theorem setSlateRequest_stores (hr : s.pointerRefusal f = none) :
    let u := (s.setPointer f).acceptPanel ⟨d, cycle.toNat, duty.toNat, min hold.toNat 7200000⟩
    setSlateRequest pointer take display lane cycle duty hold s =
      (u, .ok (u.su.pointer.chars ++ presentOr 2 (bytesOf 2) (u.slateTake.map Take.id) ++ u.su.panel.chars)) := by
  simp only [setSlateRequest, hf, hd, cycleOf_known hc, dutyPercentOf_known hdu, hr]

end setSlate

/-- Settles O44: each request by the first check that fails and by what it stores or empties where all pass, with the codes. -/
theorem slateSettingsStored : Obligations.SlateSettingsStored := by
  refine fun l s => ⟨fun count duty onTime d htakes hd => ?flash, fun count duty onTime htakes hunknown => ?noFlash,
    fun pointer display lane cycle duty take hold htakes hbad => ?bad,
    fun pointer display lane cycle duty take hold d htakes hd hc hdu => ?slate, fun clear htakes => ?loose,
    fun p => rfl, rfl, fun id => rfl, rfl, fun o => ⟨rfl, rfl⟩, rfl, rfl, fun k lane => ⟨?house, fun i hlane => ⟨?output, ?input⟩⟩⟩
  case flash =>
    rw [exec_setFlash htakes]
    simp only [setFlashRequest, hd]
    rfl
  case noFlash =>
    rw [exec_setFlash htakes]
    simp only [setFlashRequest, dutyCodeOf_unknown hunknown]
  case bad =>
    rw [exec_setSlate htakes, setSlateRequest_badValue hbad]
  case slate =>
    rw [exec_setSlate htakes]
    refine ⟨?_, ?_, ?_, fun t => ?_⟩
    · rintro rfl
      rw [setSlateRequest_stores (f := .auto) rfl hd hc hdu rfl]
      rfl
    · rintro rfl
      rw [setSlateRequest_stores (f := .keep) rfl hd hc hdu rfl]
      rfl
    · rintro rfl hnone
      rw [setSlateRequest_refused rfl hd hc hdu (State.pointerRefusal_noTake hnone)]
    · rintro rfl ht
      refine ⟨fun hclosed => ?_, fun hopen => ?_⟩
      · rw [setSlateRequest_refused rfl hd hc hdu (State.pointerRefusal_closed ht hclosed)]
      · rw [setSlateRequest_stores rfl hd hc hdu (State.pointerRefusal_open ht hopen)]
        rfl
  case loose =>
    rw [exec_readLoose htakes]
    refine ⟨?_, ?_, fun hunknown => ?_⟩
    · rintro rfl
      rfl
    · rintro rfl
      rfl
    · simp only [readLooseRequest, switchOf_unknown hunknown]
  case house =>
    rintro rfl
    rfl
  case output | input =>
    rintro rfl
    simp only [displayOf, laneOf_of_toNat_eq hlane]
    rfl

/-! ### The slate take (R137) -/

section slateTake

variable {s : State}

theorem State.slateTake_explicit {id : Nat} (h : s.su.pointer = .take id) : s.slateTake = s.take? id := by
  simp only [State.slateTake, h]

theorem State.slateTake_auto (h : s.su.pointer = .auto) : s.slateTake = s.autoSlateTake := by
  simp only [State.slateTake, h]

theorem State.autoSlateTake_empty (h : s.tt.rollOrder = []) : s.autoSlateTake = none := by
  simp only [State.autoSlateTake, h]
  rfl

/-- No ROLLING take among the records that some ids find. -/
theorem State.find?_rolling_none {ids : List Nat} (h : ∀ j k, j ∈ ids → s.take? j = some k → k.state ≠ .rolling) :
    (ids.reverse.filterMap s.take?).find? (fun t => t.state == .rolling) = none := by
  refine List.find?_eq_none.mpr fun k hk => ?_
  obtain ⟨j, hj, hfound⟩ := List.mem_filterMap.mp hk
  simpa using h j k (List.mem_reverse.mp hj) hfound

/-- R137: under AUTO, a ROLLING take with none nearer the tail. -/
theorem State.autoSlateTake_rolling {before later : List Nat} {id : Nat} {t : Take} (horder : s.tt.rollOrder = before ++ id :: later)
    (ht : s.take? id = some t) (hrolls : t.state = .rolling)
    (hlater : ∀ j k, j ∈ later → s.take? j = some k → k.state ≠ .rolling) : s.autoSlateTake = some t := by
  have hsplit : s.tt.rollOrder.reverse.filterMap s.take? =
      later.reverse.filterMap s.take? ++ t :: before.reverse.filterMap s.take? := by simp [horder, ht]
  have hfound : (s.tt.rollOrder.reverse.filterMap s.take?).find? (fun t => t.state == .rolling) = some t := by
    rw [hsplit, List.find?_append, State.find?_rolling_none hlater, Option.none_or]
    exact List.find?_cons_of_pos (beq_iff_eq.mpr hrolls)
  simp only [State.autoSlateTake, hfound]

/-- R137: under AUTO, the take at the tail where none is ROLLING. -/
theorem State.autoSlateTake_tail {before : List Nat} {id : Nat} {t : Take} (horder : s.tt.rollOrder = before ++ [id])
    (ht : s.take? id = some t) (hnone : ∀ j k, j ∈ s.tt.rollOrder → s.take? j = some k → k.state ≠ .rolling) :
    s.autoSlateTake = some t := by
  have htail : (s.tt.rollOrder.reverse.filterMap s.take?).head? = some t := by simp [horder, ht]
  simp only [State.autoSlateTake, State.find?_rolling_none hnone, htail]

end slateTake

/-! ### The digits (R139, R142) -/

section digits

variable {s : State}

theorem State.digits_held {h : Hold} (hheld : s.su.hold = some h) : s.digits = h.label := by
  simp only [State.digits, hheld]

theorem State.digits_live (h : s.su.hold = none) : s.digits = s.displayLabel s.tick := by
  simp only [State.digits, h]

/-- R17: a configuration has a timeline exactly where its kind is TIMECODE. -/
theorem setupOf_timeline_isSome (house : Timeline) (r : Nat) (c : OutConfig) : (setupOf house r c).timeline.isSome = c.isTimecode := by
  cases c with
  | off | pulse | wordclock => rfl
  | timecode rate drop tl user => cases tl <;> rfl

theorem State.displayLabel_house (h : s.su.panel.display = .house) (t : Nat) :
    s.displayLabel t = some ⟨s.tu.house.labelAt t, s.tu.house.drop⟩ := by
  simp only [State.displayLabel, h]

theorem State.displayLabel_output {o : LaneId} (h : s.su.panel.display = .output o) (t : Nat) :
    s.displayLabel t = (s.output o).newestTimeline.map (fun tl => ⟨tl.labelAt t, tl.drop⟩) := by
  simp only [State.displayLabel, h]

theorem State.displayLabel_input {i : LaneId} (h : s.su.panel.display = .input i) (hkind : (s.input i).settings.kind = .timecode)
    (t : Nat) : s.displayLabel t = ((s.input i).good.bind GoodArrival.fields).map (fun f => ⟨f.label, f.drop⟩) := by
  simp only [State.displayLabel, h, if_pos hkind]

theorem State.displayLabel_otherKind {i : LaneId} (h : s.su.panel.display = .input i) (hkind : (s.input i).settings.kind ≠ .timecode)
    (t : Nat) : s.displayLabel t = none := by
  simp only [State.displayLabel, h, if_neg hkind]

end digits

/-! ### The lamp (R141) -/

section lamp

variable {s : State}

theorem State.blinkLit_iff : s.blinkLit = true ↔
    s.tick / s.blinkRate.period % s.su.panel.cycle < s.su.panel.cycle * s.su.panel.duty / 100 := decide_eq_true_iff

theorem State.blinkRate_output {o : LaneId} (h : s.su.panel.display = .output o) :
    s.blinkRate = match (s.output o).newestTimeline with
      | some tl => tl.rate
      | none => s.tu.house.rate := by
  simp only [State.blinkRate, h]
  cases (s.output o).newestTimeline <;> rfl

theorem lampOf_armed {t : Take} (h : t.state = .armed) : lampOf (some t) = .blink := by
  simp only [lampOf, Option.map_some, h]

theorem lampOf_rolling {t : Take} (h : t.state = .rolling) : lampOf (some t) = .steady := by
  simp only [lampOf, Option.map_some, h]

theorem lampOf_dark {x : Option Take} (h : ∀ t, x = some t → t.state = .cut ∨ t.state = .closed) : lampOf x = .dark := by
  cases x with
  | none => rfl
  | some t => rcases h t rfl with h | h <;> simp only [lampOf, Option.map_some, h]

theorem State.lampLit_blink (h : lampOf s.slateTake = .blink) : s.lampLit = s.blinkLit := by
  simp only [State.lampLit, h]

theorem State.lampLit_steady (h : lampOf s.slateTake = .steady) : s.lampLit = true := by
  simp only [State.lampLit, h]

theorem State.lampLit_dark (h : lampOf s.slateTake = .dark) : s.lampLit = false := by
  simp only [State.lampLit, h]

end lamp

/-- Settles O45: the slate take by the pointer, the digits by the hold and the display source, the lamp by the slate take's state. -/
theorem slateTakeAndPanel : Obligations.SlateTakeAndPanel := by
  intro s
  refine ⟨fun id => State.slateTake_explicit, fun hauto => ?auto, fun h => State.digits_held, State.digits_live, setupOf_timeline_isSome,
    fun t => ⟨fun hhouse => State.displayLabel_house hhouse t, fun o ho => ?output, fun i hi => ?input⟩, ?lamp, rfl⟩
  case auto =>
    rw [State.slateTake_auto hauto]
    exact ⟨State.autoSlateTake_empty, fun before id later t => State.autoSlateTake_rolling, fun before id t => State.autoSlateTake_tail⟩
  case output =>
    rw [State.displayLabel_output ho]
    refine ⟨fun tl htl => ?_, fun hnone => ?_⟩
    · rw [htl, Option.map_some]
    · rw [hnone, Option.map_none]
  case input =>
    refine ⟨fun g f hkind hg hf => ?_, fun hblank => ?_⟩
    · rw [State.displayLabel_input hi hkind, hg, Option.bind_some, hf, Option.map_some]
    · by_cases hkind : (s.input i).settings.kind = .timecode
      · rw [State.displayLabel_input hi hkind, hblank.resolve_left (not_not_intro hkind)]
        rfl
      · exact State.displayLabel_otherKind hi hkind t
  case lamp =>
    intro rate
    have hrate : s.blinkRate = rate := by
      simp only [rate]
      split
      · simp only [State.blinkRate, ‹s.su.panel.display = _›]
      · exact State.blinkRate_output ‹_›
      · simp only [State.blinkRate, ‹s.su.panel.display = _›]
    refine ⟨fun t ht harmed => ?_, fun t ht hrolls => ?_, fun hdark => ?_⟩
    · have hlamp : lampOf s.slateTake = .blink := ht ▸ lampOf_armed harmed
      refine ⟨hlamp, ?_⟩
      rw [State.lampLit_blink hlamp, State.blinkLit_iff, hrate]
    · have hlamp : lampOf s.slateTake = .steady := ht ▸ lampOf_rolling hrolls
      exact ⟨hlamp, State.lampLit_steady hlamp⟩
    · have hlamp : lampOf s.slateTake = .dark := lampOf_dark hdark
      exact ⟨hlamp, State.lampLit_dark hlamp⟩

/-! ### The contact (R128) -/

section contact

variable {s : State} {c : Nat}

/-- R128: the debounce expiry presents a clap stamped at the closure. -/
theorem exec_debounceExpiry_due (hc : s.su.contact = .timing c) (hdue : c + 1440 ≤ s.tick) :
    exec .debounceExpiry s = .next ((s.setContact .held).presentClap c .contact).1 := by
  have hexpired : s.debounceDue = true := s.debounceDue_iff.mpr ⟨c, hc, hdue⟩
  refine congrArg Host.Outcome.next ?_
  simp only [hc, if_pos hexpired]

theorem exec_debounceExpiry_notDue (h : s.debounceDue = false) : exec .debounceExpiry s = .next s := by
  refine congrArg Host.Outcome.next ?_
  split
  · exact if_neg (Bool.eq_false_iff.mp h)
  all_goals rfl

end contact

/-! ### The burst and the hold (R135, R136, R142) -/

section burst

variable {s : State} {b : Burst}

theorem exec_burstStep_due (hb : s.su.burst = some b) (hdue : b.nextStep ≤ s.tick) (hmore : b.lit = false ∨ 0 < b.toBegin) :
    exec .burstStep s = .next { s with su := { s.su with burst := some b.step } } := by
  refine congrArg Host.Outcome.next (if_pos (s.burstStepDue_iff.mpr ⟨b, hb, hdue, hmore⟩) |>.trans ?_)
  rw [State.modSu, hb]
  rfl

theorem exec_burstStep_notDue (h : s.burstStepDue = false) : exec .burstStep s = .next s :=
  congrArg Host.Outcome.next (if_neg (Bool.eq_false_iff.mp h))

theorem exec_burstEnd_due (h : s.burstEndDue = true) : exec .burstEnd s = .next { s with su := { s.su with burst := none } } :=
  congrArg Host.Outcome.next (if_pos h)

theorem exec_burstEnd_notDue (h : s.burstEndDue = false) : exec .burstEnd s = .next s :=
  congrArg Host.Outcome.next (if_neg (Bool.eq_false_iff.mp h))

theorem exec_holdEnd_due (h : s.holdDue = true) : exec .holdEnd s = .next { s with su := { s.su with hold := none } } :=
  congrArg Host.Outcome.next (if_pos h)

theorem exec_holdEnd_notDue (h : s.holdDue = false) : exec .holdEnd s = .next s :=
  congrArg Host.Outcome.next (if_neg (Bool.eq_false_iff.mp h))

theorem Burst.step_lit (h : b.lit = true) : b.step = { b with lit := false, nextStep := b.nextStep + b.settings.offTime } := if_pos h

theorem Burst.step_dark (h : b.lit = false) :
    b.step = { b with lit := true, toBegin := b.toBegin - 1, nextStep := b.nextStep + b.settings.pulseOn } :=
  if_neg (Bool.eq_false_iff.mp h)

end burst

/-! ### The pulses of a burst (R135) -/

section pulses

variable {f : FlashSettings}

/-- R135: a ratio duty code gives a pulse of the on-time for each of the count. -/
theorem FlashSettings.ratio_pulses (h : f.duty ≠ .steady) : f.pulses = f.count ∧ f.pulseOn = f.onTime := by
  unfold FlashSettings.pulses FlashSettings.pulseOn
  cases hduty : f.duty with
  | steady => exact absurd hduty h
  | _ => exact ⟨rfl, rfl⟩

theorem FlashSettings.steady_pulses (h : f.duty = .steady) : f.pulses = 1 ∧ f.pulseOn = f.count * f.onTime := by
  simp only [FlashSettings.pulses, FlashSettings.pulseOn, h, and_self]

/-- R135: from one pulse to the next: its off phase, then the next on phase. -/
theorem Burst.step_step (t k n : Nat) :
    (Burst.mk f t k true n).step.step = ⟨f, t, k - 1, true, n + f.offTime + f.pulseOn⟩ := rfl

theorem newBurst_pulse (f : FlashSettings) (t j : Nat) : Burst.step^[2 * j] (newBurst f t) =
    ⟨f, t, f.pulses - 1 - j, true, t + j * (f.pulseOn + f.offTime) + f.pulseOn⟩ := by
  induction j with
  | zero => simp [newBurst]
  | succ j ih =>
    rw [Nat.mul_succ, Function.iterate_succ_apply', Function.iterate_succ_apply', ih, Burst.step_step, Nat.sub_sub]
    congr 1
    ring

theorem newBurst_endTick (f : FlashSettings) (t : Nat) :
    (newBurst f t).endTick = t + f.pulses * f.pulseOn + (f.pulses - 1) * f.offTime := (Nat.add_assoc _ _ _).symm

end pulses

/-- Settles O46: the contact, the burst and the hold event by event, and the phases of a burst by induction on its pulses. -/
theorem contactBurstAndHoldEvents : Obligations.ContactBurstAndHoldEvents := by
  intro s
  refine ⟨fun hopened => congrArg Host.Outcome.next (if_pos hopened), fun hclosed => congrArg Host.Outcome.next (if_neg hclosed), rfl,
    fun c hc hdue => ⟨?ignored, fun hfar => ?accepted⟩, exec_debounceExpiry_notDue,
    fun b hb hdue => ⟨fun hlit hmore => ?off, fun hdark => ?on, fun hlit hlast => exec_burstEnd_due ?_⟩,
    exec_burstStep_notDue, exec_burstEnd_notDue, fun h hh hdue => exec_holdEnd_due (s.holdDue_iff.mpr ⟨h, hh, hdue⟩),
    exec_holdEnd_notDue, fun f => ⟨?_, ?_, ?_, ?_, ?_⟩, fun f t j hratio _ => ?ratio, fun f t hsteady => ?steady⟩
  case ignored =>
    rintro ⟨r, hr, hnear⟩
    have hignored : ¬ (s.setContact .held).su.accepts c = true := fun hfar =>
      Nat.not_le.mpr hnear ((SlateUnit.accepts_iff _).mp hfar r hr)
    rw [exec_debounceExpiry_due hc hdue, State.presentClap_ignored hignored]
    rfl
  case accepted =>
    have haccepts : (s.setContact .held).su.accepts c = true := (SlateUnit.accepts_iff _).mpr hfar
    rw [exec_debounceExpiry_due hc hdue, State.presentClap_accepted haccepts]
    rfl
  case off =>
    rw [exec_burstStep_due hb hdue (.inr hmore), Burst.step_lit hlit]
  case on =>
    rw [exec_burstStep_due hb hdue (.inl hdark), Burst.step_dark hdark]
  case ratio =>
    obtain ⟨hpulses, hon⟩ := FlashSettings.ratio_pulses hratio
    rw [newBurst_pulse, newBurst_endTick, hpulses, hon]
    exact ⟨rfl, rfl⟩
  case steady =>
    obtain ⟨hpulses, hon⟩ := FlashSettings.steady_pulses hsteady
    rw [newBurst_endTick, newBurst, hpulses, hon]
    exact ⟨rfl, by omega⟩
  · exact s.burstEndDue_iff.mpr ⟨b, hb, hdue, hlit, hlast⟩
  all_goals
    intro hduty
    simp only [FlashSettings.offTime, hduty]

end Sys2Proof.Machine

/-! PROOFS. What every step keeps of the links (R150, R151, R160, R161, R167, R169): the soundness of one link under each of its own
operations, and what every block leaves of the links when it acts, so that a taken request is accepted or refused (R158). -/

namespace Sys2Proof.Machine

-- One proof after another: side by side, the proofs of the whole text want more threads than the check's memory holds.
set_option Elab.async false

open Sys2Proof

/-! ### Updates of one link -/

theorem State.modLink_congr {s : State} {l : LinkId} {f g : LinkPort → LinkPort} (h : f (s.link l) = g (s.link l)) :
    s.modLink l f = s.modLink l g := by
  simp only [State.modLink, h]

@[simp] theorem Four.set_get_self {α : Type} (v : Four α) (l : LinkId) : v.set l (v.get l) = v := by
  match l with
  | 0 | 1 | 2 | 3 => rfl

theorem State.modLink_eq_self {s : State} {l : LinkId} {f : LinkPort → LinkPort} (h : f (s.link l) = s.link l) : s.modLink l f = s := by
  rw [State.modLink, h, State.link, Four.set_get_self]

theorem next_modLink_congr {s : State} {l : LinkId} {f g : LinkPort → LinkPort} (h : f (s.link l) = g (s.link l)) :
    (.next (s.modLink l f) : Host.Outcome State Fault Refusal) = .next (s.modLink l g) :=
  congrArg Host.Outcome.next (State.modLink_congr h)

theorem next_modLink_eq_self {s : State} {l : LinkId} {f : LinkPort → LinkPort} (h : f (s.link l) = s.link l) :
    (.next (s.modLink l f) : Host.Outcome State Fault Refusal) = .next s :=
  congrArg Host.Outcome.next (State.modLink_eq_self h)

theorem LinkPort.leaveDone_eq_self {p : LinkPort} (h : p.assembler.isDone = false) : p.leaveDone = p := by
  obtain ⟨a, ha, -, hsame⟩ := p.leaveDone_eq
  rw [ha, hsame h]

theorem LinkPort.leaveDone_isDone (p : LinkPort) : p.leaveDone.assembler.isDone = false := by
  obtain ⟨a, ha, hdone, -⟩ := p.leaveDone_eq
  rwa [ha]

/-! ### The release (R169, R172) -/

theorem LinkPort.enqueue_batchExpiry (p : LinkPort) (n : Notice) (now : Nat) :
    (p.enqueue n now).batchExpiry =
      if (p.enqueue n now).release then none
      else if p.queue.isEmpty then some (now + p.notices.timeout * Config.ticksPerMs) else p.batchExpiry := rfl

/-- R172 step 2: a notice still chosen after the drop was chosen before it, and is still queued. -/
theorem LinkPort.feederAfterDrop_chosen {p : LinkPort} {classes : BitVec 5} {rest : List TxChar}
    (h : p.feederAfterDrop classes = .notice false rest) :
    p.feeder = .notice false rest ∧ (p.queue ≠ [] → keepSubscribed classes p.queue ≠ []) := by
  unfold LinkPort.feederAfterDrop at h
  split at h
  · rename_i chosen q qs hf hqueue
    split at h
    · rename_i hkeep
      exact ⟨hf.trans h, fun _ => by simp [hqueue, keepSubscribed, hkeep]⟩
    · exact nomatch h
  · rename_i hnone
    refine ⟨h, fun hqueue => ?_⟩
    obtain ⟨q, qs, hcons⟩ := List.exists_cons_of_ne_nil hqueue
    exact absurd hcons (hnone rest q qs h)

/-- R172 steps 3 and 4: the settings in force settle the release and the expiry. -/
theorem LinkPort.reassess_batchInv {p : LinkPort} (hexpiry : p.release = true → p.batchExpiry = none)
    (hchosen : ∀ rest, p.feeder = .notice false rest → p.release = true ∧ p.queue ≠ []) (now : Nat) :
    (p.reassess now).BatchInv := by
  unfold LinkPort.reassess
  split
  · rename_i hqueue
    exact ⟨nofun, fun _ => by simp [hqueue], fun rest hf => absurd hqueue (hchosen rest hf).2⟩
  · rename_i q qs hqueue
    split
    · rename_i hr
      exact ⟨fun _ => ⟨by simp [hqueue], hexpiry hr⟩, fun hoff => absurd hr (Bool.eq_false_iff.mp hoff), fun _ _ => hr⟩
    · rename_i hr
      dsimp only
      split
      · exact ⟨fun _ => ⟨by simp [hqueue], rfl⟩, nofun, fun _ _ => rfl⟩
      · rename_i hdue
        refine ⟨fun hon => absurd hon hr, fun _ => ?_, fun rest hf => absurd (hchosen rest hf).1 hr⟩
        simp only [hqueue, not_or, Nat.not_le] at hdue ⊢
        exact ⟨hdue.1, trivial⟩

section batch

variable {p : LinkPort} (h : p.BatchInv)
include h

/-- R167 to R169: a notice that enters settles the release and the expiry. -/
theorem LinkPort.BatchInv.enqueue (n : Notice) (now : Nat) : (p.enqueue n now).BatchInv := by
  obtain ⟨-, hoff, hchosen⟩ := h
  refine ⟨fun hr => ⟨by simp, by rw [LinkPort.enqueue_batchExpiry, if_pos hr]⟩, fun hr => ?off, fun rest hf => ?chosen⟩
  case chosen => simp [hchosen rest hf]
  case off =>
    have hexpiry := p.enqueue_batchExpiry n now
    rw [if_neg (Bool.eq_false_iff.mp hr)] at hexpiry
    obtain ⟨hp, hlevel⟩ : p.release = false ∧ p.queue.length + 1 < p.notices.level := by simpa using hr
    have hq := hoff hp
    cases hqueue : p.queue with
    | nil =>
      rw [hqueue] at hlevel hexpiry
      simp only [LinkPort.enqueue_queue, hqueue, List.nil_append]
      exact ⟨hlevel, hexpiry⟩
    | cons q qs =>
      rw [hqueue] at hlevel hexpiry hq
      simp only [LinkPort.enqueue_queue, hqueue, List.cons_append]
      exact ⟨by simpa [LinkPort.enqueue] using hlevel, hexpiry.trans hq.2⟩

/-- R169: the head of a released queue leaves it released while another notice is there. -/
theorem LinkPort.BatchInv.noticeLeaves (hr : p.release = true) {f : Feeder} (hf : ∀ rest, f ≠ .notice false rest) :
    ({ p.noticeLeaves with feeder := f } : LinkPort).BatchInv := by
  obtain ⟨-, hexpiry⟩ := h.1 hr
  cases hqueue : p.queue.drop 1 with
  | nil => simp [LinkPort.BatchInv, LinkPort.noticeLeaves, hqueue, hf]
  | cons q qs => simp [LinkPort.BatchInv, LinkPort.noticeLeaves, hqueue, hf, hr, hexpiry]

/-- R169: an expiry that is due turns the release on over a queue that is not empty. -/
theorem LinkPort.BatchInv.expireBatch (now : Nat) : (p.expireBatch now).BatchInv := by
  unfold LinkPort.expireBatch
  split
  · rename_i hdue
    obtain ⟨t, ht, -⟩ := (p.batchDue_iff now).mp hdue
    obtain ⟨hon, hoff, hchosen⟩ := h
    have hqueue : p.queue ≠ [] := fun hnil => by
      cases hr : p.release with
      | true => exact (hon hr).1 hnil
      | false => simpa [hnil, ht] using hoff hr
    exact ⟨fun _ => ⟨hqueue, rfl⟩, nofun, fun _ _ => rfl⟩
  · exact h

/-- R172: SET NOTICES settles the release and the expiry under the new settings; a chosen notice that stays is still the head. -/
theorem LinkPort.BatchInv.applyNotices (set : NoticeSettings) (now : Nat) : (p.applyNotices set now).BatchInv := by
  unfold LinkPort.applyNotices
  obtain ⟨hon, -, hchosen⟩ := h
  apply LinkPort.reassess_batchInv
  · exact fun hr => (hon hr).2
  · intro rest hf
    obtain ⟨hfeeder, hkept⟩ := LinkPort.feederAfterDrop_chosen hf
    have hr := hchosen rest hfeeder
    exact ⟨hr, hkept (hon hr).1⟩

end batch

/-! ### One link under its own operations (R150 to R161, R167 to R172) -/

theorem LinkPort.reassess_eq (p : LinkPort) (now : Nat) :
    p.reassess now = { p with release := (p.reassess now).release, batchExpiry := (p.reassess now).batchExpiry } := by
  unfold LinkPort.reassess
  split
  · rfl
  · split
    · rfl
    · dsimp only
      split <;> rfl

theorem LinkPort.clearedLink_sound (divisor : Nat) (notices : NoticeSettings) (pause : Bool) :
    (clearedLink divisor notices pause).Sound where
  rx := Nat.zero_le _
  tx := Nat.zero_le _
  queue := Nat.zero_le _
  hold := holdAfter_bounds false 0
  sending := nofun
  batch := ⟨nofun, fun _ => rfl, nofun⟩

namespace LinkPort.Sound

variable {p : LinkPort} (h : p.Sound)
include h

/-- What an update of the other fields leaves sound. -/
theorem of_eq {q : LinkPort} (hrx : q.rx = p.rx := by rfl) (hhold : q.hold = p.hold := by rfl) (htx : q.tx = p.tx := by rfl)
    (hsending : q.sending = p.sending := by rfl) (hqueue : q.queue = p.queue := by rfl)
    (hbatch : p.BatchInv → q.BatchInv := by exact id) : q.Sound where
  rx := hrx ▸ h.rx
  tx := htx ▸ h.tx
  queue := hqueue ▸ h.queue
  hold := by
    unfold LinkPort.HoldInv
    rw [hrx, hhold]
    exact h.hold
  sending := by
    rw [hsending, htx]
    exact h.sending
  batch := hbatch h.batch

theorem offer (n : Notice) (now : Nat) : (p.offer n now).Sound := by
  rcases p.offer_cases n now with ⟨-, heq⟩ | ⟨-, hroom, heq⟩ | ⟨-, -, heq⟩ <;> rw [heq]
  · exact h
  · exact { h with
      queue := by
        rw [LinkPort.enqueue_queue, List.length_append]
        exact hroom
      batch := h.batch.enqueue n now }
  · exact h.of_eq

theorem answer (kind : Byte) (r : Reply) : (p.answer kind r).Sound := by
  cases r with
  | refused code carried => exact h.of_eq
  | accepted body after => cases after <;> exact h.of_eq

/-- An update of the assembler alone. -/
theorem withAssembler (a : Assembler) : ({ p with assembler := a } : LinkPort).Sound := h.of_eq

theorem leaveDone : p.leaveDone.Sound := by
  obtain ⟨a, ha, -, -⟩ := p.leaveDone_eq
  exact ha ▸ h.withAssembler a

theorem holdOutcome (held : HeldOutcome) : (p.holdOutcome held).Sound := by
  unfold LinkPort.holdOutcome
  split
  · exact h.of_eq
  all_goals exact h

theorem applyNotices (set : NoticeSettings) (now : Nat) : (p.applyNotices set now).Sound := by
  have hbatch := h.batch.applyNotices set now
  unfold LinkPort.applyNotices at *
  rw [LinkPort.reassess_eq] at *
  exact { h with
    queue := (List.length_filter_le _ _).trans h.queue
    batch := hbatch }

theorem expireBatch (now : Nat) : (p.expireBatch now).Sound := by
  have hbatch := h.batch.expireBatch now
  unfold LinkPort.expireBatch at *
  split
  · rename_i hdue
    rw [if_pos hdue] at hbatch
    exact { h with batch := hbatch }
  · exact h

/-! #### The receive path -/

/-- R151: new contents of the receive FIFO within its depth. -/
theorem withRx {rx : List RxChar} (hrx : rx.length ≤ Config.fifoDepth) : (p.withRx rx).Sound :=
  { h with
    rx := hrx
    hold := holdAfter_bounds _ _ }

theorem receive (data : Byte) (lead framing : Bool) : (p.receive data lead framing).Sound := by
  unfold LinkPort.receive
  split
  · exact h
  · split
    · rename_i hroom
      have hstored (c : RxChar) : (p.rx ++ [c]).length ≤ Config.fifoDepth := by
        rw [List.length_append]
        exact hroom
      exact (h.withRx (hstored _)).of_eq
    · exact h.of_eq

theorem enterBreak : p.enterBreak.Sound := by
  unfold LinkPort.enterBreak
  split
  · exact h
  · exact { h with
      rx := Nat.zero_le _
      hold := holdAfter_bounds false 0 }

theorem takeChar : p.takeChar.Sound := by
  unfold LinkPort.takeChar
  split
  · exact h
  · rename_i c rest hrx
    split
    · exact h
    · have hrest : rest.length ≤ Config.fifoDepth := by
        have hle := h.rx
        rw [hrx, List.length_cons] at hle
        omega
      exact (h.withRx hrest).of_eq

theorem silenceTimer : p.silenceTimer.Sound := by
  unfold LinkPort.silenceTimer
  split
  · split
    · exact h.of_eq
    · exact h
  · exact h

theorem takeRefusal : p.takeRefusal.Sound := by
  unfold LinkPort.takeRefusal
  split
  · split
    · exact (h.withAssembler .idle).answer _ _
    · exact h
  all_goals exact h

/-! #### The transmit path -/

theorem pushTx (c : TxChar) (hroom : p.txRoom = true) : (p.pushTx c).Sound :=
  { h with
    tx := by
      rw [LinkPort.pushTx_tx, List.length_append]
      exact of_decide_eq_true hroom
    sending := fun _ => by simp }

/-- A feeder that holds no notice, or one that has begun to enter. -/
theorem withFeeder {f : Feeder} (hf : ∀ rest, f ≠ .notice false rest) : ({ p with feeder := f } : LinkPort).Sound :=
  h.of_eq (hbatch := fun hb => ⟨hb.1, hb.2.1, fun rest hrest => absurd hrest (hf rest)⟩)

theorem feedResponse (w : WaitingResponse) : (p.feedResponse w).Sound := by
  unfold LinkPort.feedResponse
  split
  · exact (h.withFeeder (f := .free) nofun).of_eq
  · split
    · rename_i hroom
      split
      · exact ((h.pushTx _ hroom).withFeeder (f := .free) nofun).of_eq
      · exact ((h.pushTx _ hroom).withFeeder (f := .response) nofun).of_eq
    · exact h.withFeeder nofun

/-- R170: the first character of a notice takes the notice off a released queue. -/
theorem feedNotice {entered : Bool} (hentered : entered = false → p.release = true) (rest : List TxChar) :
    (p.feedNotice entered rest).Sound := by
  unfold LinkPort.feedNotice
  split
  · exact h.withFeeder nofun
  · rename_i c rest
    split
    · rename_i hroom
      have hfeeder (xs : List TxChar) : ∀ ys, (if xs.isEmpty then Feeder.free else .notice true xs) ≠ .notice false ys := by
        cases xs <;> simp
      cases entered with
      | true => exact (h.pushTx c hroom).withFeeder (hfeeder rest)
      | false =>
        exact { h.pushTx c hroom with
          queue := (List.drop_sublist _ _).length_le.trans h.queue
          batch := h.batch.noticeLeaves (hentered rfl) (hfeeder rest) }
    · exact h

theorem feed : p.feed.Sound := by
  unfold LinkPort.feed
  split
  · rename_i entered rest hfeeder
    exact h.feedNotice (fun hentered => h.batch.2.2 rest (hentered ▸ hfeeder)) rest
  · exact h.feedResponse _
  · exact h.feedResponse _
  · exact h
  · exact h

theorem takeNotice : p.takeNotice.Sound := by
  unfold LinkPort.takeNotice
  split
  · rename_i q qs hqueue
    split
    · rename_i hready
      obtain ⟨-, -, hr, -, -⟩ := p.noticeReady_iff.mp hready
      have hchosen : ({ p with feeder := .notice false q.frame } : LinkPort).Sound :=
        h.of_eq (hbatch := fun hb => ⟨hb.1, hb.2.1, fun _ _ => hr⟩)
      exact hchosen.feedNotice (fun _ => hr) _
    · exact h
  · exact h

theorem releasePause : p.releasePause.Sound :=
  { h with
    sending := fun hs => by
      rcases Bool.or_eq_true_iff.mp hs with hsending | htx
      · exact h.sending hsending
      · exact (by simpa using htx : p.tx ≠ []) }

theorem finishChar : p.finishChar.Sound :=
  { h with
    tx := (List.drop_sublist _ _).length_le.trans h.tx
    sending := fun hs => by simpa using (Bool.and_eq_true_iff.mp hs).2 }

theorem countDivisor : p.countDivisor.Sound := by
  unfold LinkPort.countDivisor
  split
  · split <;> exact h.of_eq
  · exact h

theorem charSent : p.charSent.Sound := h.finishChar.countDivisor.of_eq

end LinkPort.Sound

end Sys2Proof.Machine

/-! PROOFS. What a block leaves of the links when it acts: every link's assembler as it was and every sound link sound, so that each step
keeps the links sound, and a request that is taken is accepted, or refused with nothing done (R158). -/

namespace Sys2Proof.Machine

set_option Elab.async false

open Sys2Proof

/-! ### The relation, and the updates that leave the links -/

/-- From `p` to `q` the assembler stands, and a sound link stays so. -/
structure LinkPort.Keeps (p q : LinkPort) : Prop where
  assembler : q.assembler = p.assembler
  sound : p.Sound → q.Sound

/-- From `s` to `t` the queue of commands and every link's assembler stand, and sound links stay so. -/
structure State.KeepsLinks (s t : State) : Prop where
  pending : t.pending = s.pending
  links : ∀ l, (s.link l).Keeps (t.link l)

namespace State.KeepsLinks

variable {s t u : State}

theorem refl (s : State) : s.KeepsLinks s := ⟨rfl, fun _ => ⟨rfl, id⟩⟩

theorem trans (h : s.KeepsLinks t) (k : t.KeepsLinks u) : s.KeepsLinks u where
  pending := k.pending.trans h.pending
  links l := ⟨(k.links l).assembler.trans (h.links l).assembler, (k.links l).sound ∘ (h.links l).sound⟩

protected theorem ite {c : Prop} [Decidable c] (h : s.KeepsLinks t) (k : s.KeepsLinks u) : s.KeepsLinks (if c then t else u) := by
  split
  · exact h
  · exact k

/-- What a block answers beside the next state has no part in the links. -/
theorem ite_fst {β : Type} {c : Prop} [Decidable c] {a b : State × β} (h : s.KeepsLinks a.1) (k : s.KeepsLinks b.1) :
    s.KeepsLinks (if c then a else b).1 := by
  split
  · exact h
  · exact k

theorem foldl {α : Type} {f : State → α → State} (h : ∀ (u : State) (a : α), u.KeepsLinks (f u a)) (as : List α) :
    s.KeepsLinks (as.foldl f s) := by
  induction as generalizing s with
  | nil => exact refl s
  | cons a as ih => exact (h s a).trans ih

/-- An update of the other blocks. -/
theorem of_eq (hpending : t.pending = s.pending := by rfl) (hlinks : t.links = s.links := by rfl) : s.KeepsLinks t := by
  refine ⟨hpending, fun l => ?_⟩
  simp only [State.link, hlinks]
  exact ⟨rfl, id⟩

theorem modLink {l : LinkId} {f : LinkPort → LinkPort} (h : (s.link l).Keeps (f (s.link l))) : s.KeepsLinks (s.modLink l f) := by
  refine ⟨rfl, fun k => ?_⟩
  by_cases hk : k = l
  · subst hk
    rw [State.modLink_link_self]
    exact h
  · rw [State.modLink_link_of_ne s l f hk]
    exact ⟨rfl, id⟩

/-- R166 to R169: a notice handed over. -/
theorem post {b : NoticeBody} : s.KeepsLinks (s.post b) := by
  refine ⟨rfl, fun l => ?_⟩
  rw [State.post_link]
  obtain ⟨-, -, -, -, -, -, hassembler, -⟩ := (s.link l).offer_keeps ⟨b, s.tick⟩ s.tick
  exact ⟨hassembler, fun h => h.offer _ _⟩

/-- R79: a lane enters every changed-lane set. -/
theorem markChanged {i : LaneId} : s.KeepsLinks (s.markChanged i) := by
  refine ⟨rfl, fun l => ?_⟩
  rw [State.markChanged_link]
  exact ⟨rfl, fun h => h.of_eq⟩

theorem linksInv (h : s.KeepsLinks t) (hs : s.LinksInv) : t.LinksInv := fun l => (h.links l).sound (hs l)

end State.KeepsLinks

/-! ### What a block does for a request (R158) -/

/-- A block's act on `s`: it keeps the links, and where it refuses it has done nothing. -/
structure State.Acts (s : State) (done : State × Reply) : Prop where
  keeps : s.KeepsLinks done.1
  refused : ∀ code carried, done.2 = .refused code carried → done.1 = s

namespace State.Acts

variable {s t : State} {a b : State × Reply}

/-- A block that changes nothing, whatever it replies. -/
theorem same (r : Reply) : s.Acts (s, r) := ⟨.refl s, fun _ _ _ => rfl⟩

theorem of_state_eq {done : State × Reply} (h : done.1 = s) : s.Acts done := ⟨h.symm ▸ .refl s, fun _ _ _ => h⟩

theorem accepted {body : List Byte} {after : AfterSend} (h : s.KeepsLinks t) : s.Acts (t, .accepted body after) := ⟨h, nofun⟩

theorem ok {body : List Byte} (h : s.KeepsLinks t) : s.Acts (t, .ok body) := accepted h

protected theorem ite {c : Prop} [Decidable c] (h : s.Acts a) (k : s.Acts b) : s.Acts (if c then a else b) := by
  split
  · exact h
  · exact k

end State.Acts

/-! ### House Clock and house timeline (chapters 02 and 03) -/

section clock

variable {s : State} {i : LaneId}

namespace State.KeepsLinks

theorem reportReference {old : HouseClock} : s.KeepsLinks (s.reportReference old) := .ite (refl s) post

theorem applyReference {src : RefSource} {r : RateCode} {lp : LoopMode} {field : Option Int} :
    s.KeepsLinks (s.applyReference src r lp field) := trans of_eq reportReference

theorem enterHoldover : s.KeepsLinks s.enterHoldover := by
  unfold State.enterHoldover
  split
  · exact trans of_eq reportReference
  · exact trans of_eq reportReference
  · exact refl s
  · exact refl s

theorem takeEdge : s.KeepsLinks s.takeEdge := by
  refine .ite (refl s) ?_
  dsimp only
  split
  · exact refl s
  all_goals exact trans of_eq reportReference

theorem laneEdge : s.KeepsLinks (s.laneEdge i) := .ite takeEdge (refl s)

theorem installHouse {tl : Timeline} {cause : HouseCause} {lane : Option LaneId} : s.KeepsLinks (s.installHouse tl cause lane) :=
  trans of_eq post

theorem applyHouse {tl : Timeline} {cause : HouseCause} {lane : Option LaneId} : s.KeepsLinks (s.applyHouse tl cause lane) :=
  trans of_eq installHouse

theorem applyPending {p : PendingChange} : s.KeepsLinks (s.applyPending p) := trans of_eq applyHouse

theorem rollingEnded : s.KeepsLinks s.rollingEnded := by
  unfold State.rollingEnded
  split
  · exact .ite applyPending (refl s)
  · exact refl s

theorem fallDueChange : s.KeepsLinks s.fallDueChange := by
  unfold State.fallDueChange
  split
  · exact .ite applyPending of_eq
  · exact refl s

theorem setHouse {tl : Timeline} {now : Bool} : s.KeepsLinks (s.setHouse tl now).1 :=
  trans of_eq (ite_fst (ite_fst applyHouse of_eq) of_eq)

theorem applyJam {tl : Timeline} {cause : HouseCause} : s.KeepsLinks (s.applyJam i tl cause) := trans of_eq applyHouse

theorem autoJamTrigger : s.KeepsLinks (s.autoJamTrigger i) := by
  refine .ite ?_ (refl s)
  split
  · exact .ite (refl s) applyJam
  · exact refl s

end State.KeepsLinks

namespace State.Acts

theorem setReferenceRequest {source rateClass loop trimMode : Byte} {trim : BitVec 16} :
    s.Acts (setReferenceRequest source rateClass loop trimMode trim s) := by
  unfold Machine.setReferenceRequest
  split
  · exact .ite (ok .applyReference) (same _)
  · exact same _

theorem setHouseRequest {cls : Byte} {label : LabelField} {atCode : Byte} {tick : BitVec 48} :
    s.Acts (setHouseRequest cls label atCode tick s) := by
  unfold Machine.setHouseRequest
  split
  · exact .ite (same _) (ok .setHouse)
  · exact same _

theorem jamRequest {lane : Byte} : s.Acts (jamRequest lane s) := by
  unfold Machine.jamRequest
  split
  · exact same _
  · refine .ite (same _) (.ite (.ite (same _) ?_) (same _))
    split
    · exact .ite (same _) (ok .applyJam)
    · exact same _

theorem unjamRequest : s.Acts (unjamRequest s) := by
  unfold Machine.unjamRequest
  refine .ite (same _) ?_
  split
  · exact same _
  · exact ok (.trans .of_eq .installHouse)

theorem setAutojamRequest {setting : Byte} : s.Acts (setAutojamRequest setting s) := by
  unfold Machine.setAutojamRequest
  split
  · exact ok .of_eq
  · exact same _

end State.Acts

end clock

/-! ### Take table (chapter 06) -/

section takes

variable {s : State} {i : LaneId} {t : Take} {l : LinkId}

namespace State.KeepsLinks

theorem removeTake {cause : TakeCause} {actor : Origin} : s.KeepsLinks (s.removeTake t cause actor) := trans of_eq post

theorem appendTake : s.KeepsLinks (s.appendTake t) := trans of_eq post

theorem rollTake {start : Nat} {cause : TakeCause} {actor : Origin} {x : Option LaneId} :
    s.KeepsLinks (s.rollTake t start cause actor x) := trans of_eq post

theorem closeTake {actor : Origin} : s.KeepsLinks (s.closeTake t actor) := trans of_eq post

/-- R108: a rolling count of 0 may let a held change in. -/
theorem cutTake {endTick : Nat} {cause : TakeCause} {actor : Origin} : s.KeepsLinks (s.cutTake t endTick cause actor) := by
  have hcut {u : State} (h : s.KeepsLinks u) {b : NoticeBody} : s.KeepsLinks (u.post b) := h.trans post
  exact .ite ((hcut of_eq).trans rollingEnded) (hcut of_eq)

theorem offerMark {m : Mark} : s.KeepsLinks (s.offerMark t m) := .ite (trans of_eq post) of_eq

theorem autoCutTest {id stop : Nat} : s.KeepsLinks (s.autoCutTest id stop i) := by
  unfold State.autoCutTest
  split
  · exact .ite cutTake (refl s)
  · exact refl s

theorem runStart {stamp : Nat} : s.KeepsLinks (s.runStart i stamp) := by
  unfold State.runStart
  split
  · exact of_eq
  · split
    · exact refl s
    · exact .ite post (.ite post rollTake)

theorem runStop {stamp : Nat} : s.KeepsLinks (s.runStop i stamp) := by
  unfold State.runStop
  split
  · exact trans of_eq autoCutTest
  · exact refl s

theorem takeDropout {stamp : Nat} : s.KeepsLinks (s.takeDropout i stamp) := by
  unfold State.takeDropout
  split
  · exact (offerMark.trans of_eq).trans autoCutTest
  · exact refl s

theorem takeSlip {stamp : Nat} : s.KeepsLinks (s.takeSlip i stamp) := by
  unfold State.takeSlip
  split
  · exact offerMark.trans of_eq
  · exact refl s

theorem clapOnTake {stamp : Nat} {source : Origin} : s.KeepsLinks (s.clapOnTake stamp source).1 := by
  unfold State.clapOnTake
  split
  · refine ite_fst ?_ (refl s)
    split
    · exact of_eq
    · exact offerMark
  · exact refl s

end State.KeepsLinks

namespace State.Acts

theorem armRequest {scene shot : List Byte} {number : BitVec 16} {flags count : Byte} {slots : List Byte} :
    s.Acts (armRequest l scene shot number flags count slots s) := by
  unfold Machine.armRequest
  split
  · refine .ite (same _) (.ite (same _) (.ite (same _) (.ite (same _) (.ite (same _) (ok ?_)))))
    refine .trans ?_ .appendTake
    split
    · exact .removeTake
    · exact .refl s
  · exact same _

theorem rollRequest {id : BitVec 16} : s.Acts (rollRequest l id s) := by
  unfold Machine.rollRequest
  split
  · exact same _
  · exact .ite (same _) (.ite (same _) (.ite (same _) (ok .rollTake)))

theorem cutRequest {id : BitVec 16} : s.Acts (cutRequest l id s) := by
  unfold Machine.cutRequest
  split
  · exact same _
  · exact .ite (same _) (ok .cutTake)

theorem closeRequest {id : BitVec 16} : s.Acts (closeRequest l id s) := by
  unfold Machine.closeRequest
  split
  · exact same _
  · exact .ite (same _) (ok .closeTake)

theorem voidRequest {id : BitVec 16} : s.Acts (voidRequest l id s) := by
  unfold Machine.voidRequest
  split
  · exact same _
  · split
    · exact same _
    · exact ok .removeTake
    · exact ok .removeTake
    · exact .ite (ok .removeTake) (same _)

theorem rateRequest {id : BitVec 16} {rating : Byte} : s.Acts (rateRequest id rating s) := by
  unfold Machine.rateRequest
  split
  · exact same _
  · split
    · exact same _
    · exact ok .of_eq

theorem markRequest {id : BitVec 16} {tickMode : Byte} {tick : BitVec 48} {code : Byte} :
    s.Acts (markRequest l id tickMode tick code s) := by
  unfold Machine.markRequest
  split
  · exact same _
  · split
    · exact same _
    · exact .ite (same _) (.ite (same _) (.ite (same _) (ok .offerMark)))

theorem collectRequest {id : BitVec 16} : s.Acts (collectRequest l id s) := by
  unfold Machine.collectRequest
  split
  · exact same _
  · exact .ite (same _) (ok .of_eq)

end State.Acts

end takes

/-! ### Slate unit (chapter 07) -/

section slate

variable {s : State}

namespace State.KeepsLinks

theorem fileClap {stamp : Nat} {source : Origin} : s.KeepsLinks (s.fileClap stamp source).1 := by
  unfold State.fileClap
  dsimp only
  split
  · exact clapOnTake.trans post
  · exact clapOnTake.trans post
  · exact (clapOnTake.trans of_eq).trans post

theorem startBurst : s.KeepsLinks s.startBurst := .ite of_eq (refl s)

theorem startHold {stamp : Nat} : s.KeepsLinks (s.startHold stamp) := .ite of_eq (refl s)

theorem presentClap {stamp : Nat} {source : Origin} : s.KeepsLinks (s.presentClap stamp source).1 := by
  have hfile : s.KeepsLinks ((s.modSu (fun u => { u with lockout := some stamp })).fileClap stamp source).1 := trans of_eq fileClap
  have hindicate (u : State) : u.KeepsLinks u.indicateClap := of_eq
  exact ite_fst (((hfile.trans (hindicate _)).trans startBurst).trans startHold) (refl s)

end State.KeepsLinks

namespace State.Acts

theorem setSlateRequest {pointer : Byte} {take : BitVec 16} {display lane cycle duty : Byte} {hold : BitVec 24} :
    s.Acts (setSlateRequest pointer take display lane cycle duty hold s) := by
  have hpointer (f : PointerField) : s.KeepsLinks (s.setPointer f) := by cases f <;> exact .of_eq
  unfold Machine.setSlateRequest
  split
  · split
    · exact same _
    · exact ok ((hpointer _).trans .of_eq)
  · exact same _

theorem setFlashRequest {count : Byte} {onTime : BitVec 24} {duty : Byte} : s.Acts (setFlashRequest count onTime duty s) := by
  unfold Machine.setFlashRequest
  split
  · exact same _
  · exact ok .of_eq

theorem readLooseRequest {clear : Byte} : s.Acts (readLooseRequest clear s) := by
  unfold Machine.readLooseRequest
  split
  · exact same _
  · exact ok (.ite .of_eq (.refl s))

end State.Acts

end slate

/-! ### Input and output lanes (chapters 04 and 05) -/

section lanes

variable {s : State} {i : LaneId}

namespace State.KeepsLinks

theorem reportLane {prev now : Tracking} {cause : LaneCause} {lock : Option Int} :
    s.KeepsLinks (s.reportLane i prev now cause lock) := post.trans markChanged

theorem enterTracking {off : Int} : s.KeepsLinks (s.enterTracking i off) := (trans of_eq reportLane).trans autoJamTrigger

theorem leaveTracking {seeking : Nat} {cause : LaneCause} : s.KeepsLinks (s.leaveTracking i seeking cause) := trans of_eq reportLane

theorem slip {off lock : Int} {stamp : Nat} : s.KeepsLinks (s.slip i off lock stamp) := by
  have htrigger : s.KeepsLinks ((s.count i (fun c => { c with slip := bump c.slip })).autoJamTrigger i) := trans of_eq autoJamTrigger
  exact (((htrigger.trans (.ite takeSlip (refl _))).trans post).trans markChanged).trans of_eq

theorem judgeSlip {off : Int} {stamp : Nat} : s.KeepsLinks (s.judgeSlip i off stamp) := by
  unfold State.judgeSlip
  dsimp only
  split
  · exact .ite of_eq (.ite slip (refl s))
  · exact of_eq

theorem takeFlags {g : GoodArrival} {entry : Bool} : s.KeepsLinks (s.takeFlags i g entry) := by
  have hrun {u : State} {run : Bool} {stamp : Nat} : u.KeepsLinks (u.takeRunFlag i run entry stamp) :=
    trans (.ite (.ite runStart (.ite runStop (refl u))) (refl u)) of_eq
  have hclap {u : State} {clap : Bool} {stamp : Nat} : u.KeepsLinks (u.takeClapFlag i clap entry stamp) :=
    trans (.ite presentClap (refl u)) of_eq
  unfold State.takeFlags
  split
  · exact hrun.trans hclap
  · exact refl s

theorem track {g : GoodArrival} {off : Int} {follows continues : Bool} : s.KeepsLinks (s.track i g off follows continues) := by
  unfold State.track
  dsimp only
  split
  · exact trans of_eq reportLane
  · exact .ite (enterTracking.trans takeFlags) of_eq
  · exact .ite ((trans of_eq judgeSlip).trans takeFlags) (trans of_eq leaveTracking)

theorem goodArrival {g : GoodArrival} {off : Int} {follows : Nat → Bool} : s.KeepsLinks (s.goodArrival i g off follows) :=
  (trans of_eq laneEdge).trans track

theorem errorWord : s.KeepsLinks (s.errorWord i) := by
  unfold State.errorWord
  dsimp only
  split
  · exact of_eq
  · exact of_eq
  · exact .ite (trans of_eq leaveTracking) of_eq

theorem wordArrives {w : FrameWord} : s.KeepsLinks (s.wordArrives i w) := by
  refine .ite ?_ (refl s)
  dsimp only
  split
  · exact trans of_eq goodArrival
  all_goals exact trans of_eq errorWord

theorem edgeArrives : s.KeepsLinks (s.edgeArrives i) := .ite (trans of_eq goodArrival) (refl s)

theorem goSilent {cause : LaneCause} : s.KeepsLinks (s.goSilent i cause) := by
  have hdropout : s.KeepsLinks (s.dropout i) := .ite ((takeDropout.trans post).trans markChanged) (refl s)
  exact ((hdropout.trans of_eq).trans reportLane).trans (.ite enterHoldover (refl _))

theorem applyInput {set : InSettings} : s.KeepsLinks (s.applyInput i set) := by
  unfold State.applyInput
  exact trans (.ite (refl s) goSilent) of_eq

theorem composeWord : s.KeepsLinks (s.composeWord i) := by
  unfold State.composeWord
  dsimp only
  split
  · exact of_eq
  · exact refl s

end State.KeepsLinks

namespace State.Acts

theorem setInputRequest {lane kind cls drop role : Byte} {lead : BitVec 16} {window silence : Byte} {tolerance : BitVec 16} :
    s.Acts (setInputRequest lane kind cls drop role lead window silence tolerance s) := by
  unfold Machine.setInputRequest
  split
  · exact .ite (same _) (ok .applyInput)
  · exact same _

theorem readInputRequest {l : LinkId} {lane : Byte} : s.Acts (readInputRequest l lane s) := by
  unfold Machine.readInputRequest
  split
  · exact ok (.modLink ⟨rfl, fun h => h.of_eq⟩)
  · exact same _

theorem captureRequest {lane mode flush : Byte} : s.Acts (captureRequest lane mode flush s) := by
  unfold Machine.captureRequest
  split
  · exact ok .of_eq
  · exact same _

theorem peekRequest {lane count : Byte} : s.Acts (peekRequest lane count s) := by
  unfold Machine.peekRequest
  split
  · exact same _
  · exact .ite (same _) (ok .of_eq)

theorem setOutputRequest {lane kind : Byte} {fields : OutputFields} : s.Acts (setOutputRequest lane kind fields s) := by
  unfold Machine.setOutputRequest
  split
  · exact ok .of_eq
  · exact same _

end State.Acts

end lanes

/-! ### Links and store (chapters 08 to 10) -/

section links

variable {s : State} {l : LinkId}

theorem LinkPort.Keeps.applyNotices (p : LinkPort) (set : NoticeSettings) (now : Nat) : p.Keeps (p.applyNotices set now) := by
  refine ⟨?_, fun h => h.applyNotices set now⟩
  unfold LinkPort.applyNotices
  rw [LinkPort.reassess_eq]

namespace State.KeepsLinks

theorem installDivisor {k : LinkId} {d : Nat} : s.KeepsLinks (s.modLink k (fun p => p.installDivisor d)) :=
  modLink ⟨rfl, fun h => h.of_eq⟩

theorem endWrite : s.KeepsLinks s.endWrite := by
  unfold State.endWrite
  split
  · exact trans of_eq post
  · exact refl s

theorem loadDefaults : s.KeepsLinks (s.loadDefaults l).1 := by
  have hnotices : s.KeepsLinks s.defaultNotices := ⟨rfl, fun k => by
    have hlink : s.defaultNotices.link k = (s.link k).applyNotices factoryNotices s.tick := Four.get_map _ _ _
    exact hlink ▸ .applyNotices _ _ _⟩
  have hhouse (u : State) : u.KeepsLinks u.defaultHouse.1 := ite_fst of_eq (ite_fst of_eq (trans of_eq setHouse))
  have hinputs (u : State) : u.KeepsLinks u.defaultInputs := foldl (fun _ _ => applyInput) _
  have houtputs (u : State) : u.KeepsLinks u.defaultOutputs := foldl (fun _ _ => of_eq) _
  have hpanel (u : State) : u.KeepsLinks ((u.acceptFlash factoryFlash).acceptPanel factoryPanel) := of_eq
  have hdivisors (u : State) : u.KeepsLinks (u.defaultDivisors l) := foldl (fun u _ => .ite (refl u) installDivisor) _
  exact (((((hnotices.trans applyReference).trans (hhouse _)).trans (hinputs _)).trans (houtputs _)).trans (hpanel _)).trans (hdivisors _)

end State.KeepsLinks

namespace State.Acts

theorem setLinkRequest {link : Byte} {divisor : BitVec 16} : s.Acts (setLinkRequest l link divisor s) := by
  unfold Machine.setLinkRequest
  split
  · exact same _
  · exact .ite (same _) (ok .installDivisor)

theorem setNoticesRequest {classes level timeout : Byte} : s.Acts (setNoticesRequest l classes level timeout s) := by
  unfold Machine.setNoticesRequest
  split
  · exact same _
  · exact ok (.modLink (.applyNotices _ _ _))

theorem defaultsRequest : s.Acts (defaultsRequest l s) := .ite (same _) (accepted .loadDefaults)

end State.Acts

end links

/-! ### Every request and every event (R158) -/

/-- R182: a request is taken on its own link, for a block that keeps the links and refuses only where it has done nothing. -/
theorem exec_of_requestLink {c : Instr} {l : LinkId} (h : requestLink c = some l) :
    ∃ act : State → State × Reply, (∀ u : State, u.Acts (act u)) ∧ ∀ s, exec c s = .next (takeRequest l c act s) := by
  cases c with
  | status k =>
    cases h
    exact ⟨_, fun _ => .ok (.modLink ⟨rfl, fun hp => hp.of_eq⟩), fun _ => rfl⟩
  | readClock k | readReference k | readPanel k | convert k dir a value b => cases h; exact ⟨_, fun _ => .same _, fun _ => rfl⟩
  | setHouse k r lab at_ tick => cases h; exact ⟨_, fun _ => .setHouseRequest, fun _ => rfl⟩
  | jam k lane => cases h; exact ⟨_, fun _ => .jamRequest, fun _ => rfl⟩
  | unjam k => cases h; exact ⟨_, fun _ => .unjamRequest, fun _ => rfl⟩
  | setAutojam k setting => cases h; exact ⟨_, fun _ => .setAutojamRequest, fun _ => rfl⟩
  | setReference k source r lp mode trim => cases h; exact ⟨_, fun _ => .setReferenceRequest, fun _ => rfl⟩
  | setInput k lane kind r drop role lead window silence tolerance =>
    cases h; exact ⟨_, fun _ => .setInputRequest, fun _ => rfl⟩
  | readInput k lane => cases h; exact ⟨_, fun _ => .readInputRequest, fun _ => rfl⟩
  | capture k lane mode flush => cases h; exact ⟨_, fun _ => .captureRequest, fun _ => rfl⟩
  | peek k lane count => cases h; exact ⟨_, fun _ => .peekRequest, fun _ => rfl⟩
  | setOutput k lane kind fields => cases h; exact ⟨_, fun _ => .setOutputRequest, fun _ => rfl⟩
  | readOutput k lane =>
    cases h; exact ⟨_, fun u => .of_state_eq (readOutputRequest_state lane u), fun _ => rfl⟩
  | arm k scene shot number flags count slots => cases h; exact ⟨_, fun _ => .armRequest, fun _ => rfl⟩
  | roll k id => cases h; exact ⟨_, fun _ => .rollRequest, fun _ => rfl⟩
  | cut k id => cases h; exact ⟨_, fun _ => .cutRequest, fun _ => rfl⟩
  | close k id => cases h; exact ⟨_, fun _ => .closeRequest, fun _ => rfl⟩
  | void k id => cases h; exact ⟨_, fun _ => .voidRequest, fun _ => rfl⟩
  | rate k id rating => cases h; exact ⟨_, fun _ => .rateRequest, fun _ => rfl⟩
  | mark k id mode tick code => cases h; exact ⟨_, fun _ => .markRequest, fun _ => rfl⟩
  | readTake k id => cases h; exact ⟨_, fun u => .of_state_eq (readTakeRequest_state id u), fun _ => rfl⟩
  | listTakes k start => cases h; exact ⟨_, fun u => .of_state_eq (listTakesRequest_state start u), fun _ => rfl⟩
  | collect k id => cases h; exact ⟨_, fun _ => .collectRequest, fun _ => rfl⟩
  | clap k => cases h; exact ⟨_, fun _ => .ok .presentClap, fun _ => rfl⟩
  | setSlate k pointer id display lane cycle duty hold => cases h; exact ⟨_, fun _ => .setSlateRequest, fun _ => rfl⟩
  | setFlash k count onTime duty => cases h; exact ⟨_, fun _ => .setFlashRequest, fun _ => rfl⟩
  | readLoose k clear => cases h; exact ⟨_, fun _ => .readLooseRequest, fun _ => rfl⟩
  | setLink k link divisor => cases h; exact ⟨_, fun _ => .setLinkRequest, fun _ => rfl⟩
  | setNotices k classes level timeout => cases h; exact ⟨_, fun _ => .setNoticesRequest, fun _ => rfl⟩
  | save k => cases h; exact ⟨_, fun _ => .ite (.same _) (.ite (.same _) (.ok .of_eq)), fun _ => rfl⟩
  | restart k => cases h; exact ⟨_, fun _ => .ite (.same _) (.ite (.same _) (.same _)), fun _ => rfl⟩
  | defaults k => cases h; exact ⟨_, fun _ => .defaultsRequest, fun _ => rfl⟩
  | _ => exact nomatch h

section linksInv

variable {s t : State}

theorem State.LinksInv.modLink {l : LinkId} {f : LinkPort → LinkPort} (h : s.LinksInv) (hf : (f (s.link l)).Sound) :
    (s.modLink l f).LinksInv := by
  intro k
  by_cases hk : k = l
  · subst hk
    rw [State.modLink_link_self]
    exact hf
  · rw [State.modLink_link_of_ne s l f hk]
    exact h k

/-- R158: taking a request, holding it or passing it over leaves sound links sound. -/
theorem takeRequest_linksInv {l : LinkId} {c : Instr} {act : State → State × Reply} (hact : ∀ u : State, u.Acts (act u))
    (h : s.LinksInv) : (takeRequest l c act s).LinksInv := by
  have hleave : (s.modLink l LinkPort.leaveDone).LinksInv := h.modLink (h l).leaveDone
  unfold takeRequest
  dsimp only
  split
  · cases judgedFrame (requestFrame c).1 (requestFrame c).2 with
    | request k body =>
      have hdone := (hact (s.modLink l LinkPort.leaveDone)).keeps.linksInv hleave
      exact hdone.modLink ((hdone l).answer _ _)
    | refusal k code => exact hleave.modLink ((hleave l).answer _ _)
  · split
    · exact h.modLink ((h l).holdOutcome _)
    · exact h

/-- R164, R173, R178: a start-up leaves every link cleared. -/
theorem State.startUp_linksInv (s : State) : s.startUp.LinksInv := by
  intro l
  match l with
  | 0 | 1 | 2 | 3 => exact LinkPort.clearedLink_sound _ _ _

theorem State.sendChar_linksInv (h : s.LinksInv) (l : LinkId) : (s.sendChar l).LinksInv := by
  unfold State.sendChar
  split
  · dsimp only
    split
    · exact State.startUp_linksInv _
    · exact h.modLink (h l).charSent
  · exact h

/-- R150 to R170: the events of a link, and the start-up, leave sound links sound; those of the other blocks keep the links. -/
theorem exec_event_linksInv {c : Instr} (hc : requestLink c = none) (h : s.LinksInv) (hexec : exec c s = .next t) : t.LinksInv := by
  have hkeeps {u : State} (hu : s.KeepsLinks u) (ht : exec c s = .next u) : t.LinksInv :=
    Host.Outcome.next.inj (ht.symm.trans hexec) ▸ hu.linksInv h
  have hlink {l : LinkId} {f : LinkPort → LinkPort} (hf : (f (s.link l)).Sound) (ht : exec c s = .next (s.modLink l f)) : t.LinksInv :=
    Host.Outcome.next.inj (ht.symm.trans hexec) ▸ h.modLink hf
  cases c with
  | startUp => exact Host.Outcome.next.inj hexec ▸ s.startUp_linksInv
  | characterSent l => exact Host.Outcome.next.inj hexec ▸ State.sendChar_linksInv h l
  | characterReceived l data lead framing => exact hlink ((h l).receive data lead framing) rfl
  | lineBreak l => exact hlink (h l).enterBreak rfl
  | breakEnd l => exact hlink (h l).of_eq rfl
  | characterTaken l => exact hlink (h l).takeChar rfl
  | silenceTimerExpiry l => exact hlink (h l).silenceTimer rfl
  | assemblerRefusal l => exact hlink (h l).takeRefusal rfl
  | feederCharacter l => exact hlink (h l).feed rfl
  | noticeFed l => exact hlink (h l).takeNotice rfl
  | pauseAsserted l => exact hlink (h l).of_eq rfl
  | pauseReleased l => exact hlink (h l).releasePause rfl
  | batchExpiry l => exact hlink ((h l).expireBatch s.tick) rfl
  | referenceEdge => exact hkeeps (.ite .takeEdge (.refl s)) rfl
  | lossExpiry => exact hkeeps (.ite .enterHoldover (.refl s)) rfl
  | staleExpiry => exact hkeeps (.ite (.trans .of_eq .reportReference) (.refl s)) rfl
  | pendingChangeDue => exact hkeeps (.ite .fallDueChange (.refl s)) rfl
  | wordArrival i w => exact hkeeps .wordArrives rfl
  | pulseEdge i => exact hkeeps .edgeArrives rfl
  | silenceExpiry i => exact hkeeps (.ite .goSilent (.refl s)) rfl
  | wordComposition o => exact hkeeps (.ite .composeWord (.refl s)) rfl
  | writeEnd => exact hkeeps (.ite .endWrite (.refl s)) rfl
  | debounceExpiry =>
    refine hkeeps ?_ rfl
    split
    · exact .ite (.trans .of_eq .presentClap) (.refl s)
    · exact .refl s
    · exact .refl s
  | houseFull | missingExpiry _ | effectBoundary _ | pulseStart _ | pulseEnd _ | wordclockRise _ | wordclockFall _ | contactClose
  | burstStep | burstEnd | holdEnd => exact hkeeps (.ite .of_eq (.refl s)) rfl
  | contactOpen => exact hkeeps .of_eq rfl
  | _ => exact nomatch hc

theorem exec_linksInv {c : Instr} (h : s.LinksInv) (hexec : exec c s = .next t) : t.LinksInv := by
  cases hc : requestLink c with
  | none => exact exec_event_linksInv hc h hexec
  | some l =>
    obtain ⟨act, hact, htake⟩ := exec_of_requestLink hc
    exact Host.Outcome.next.inj ((htake s).symm.trans hexec) ▸ takeRequest_linksInv hact h

end linksInv

/-- Settles O56: a command leaves sound links sound, the next in the queue or an event that is due; a period touches no link. -/
theorem stepKeepsLinksSound : Obligations.StepKeepsLinksSound := by
  intro s t h hstep
  cases hp : s.pending with
  | cons c rest =>
    have hexec : exec c { s with pending := rest } = .next t := by simpa only [step, hp] using hstep
    exact exec_linksInv (s := { s with pending := rest }) h hexec
  | nil =>
    cases hdue : s.dueCommands with
    | cons c rest => exact exec_linksInv h ((step_idle_due hp hdue).symm.trans hstep)
    | nil =>
      obtain rfl := Host.Outcome.next.inj ((step_idle_period hp hdue).symm.trans hstep)
      exact h

/-! ### Taking a request (R158) -/

/-- R158: a request whose link can take it: the block's reply is the answer, on the state as it stands where the block refuses. -/
theorem takeRequest_acceptedOrRefused {l : LinkId} {c : Instr} {act : State → State × Reply} {s : State}
    (hact : ∀ u : State, u.Acts (act u)) (h : s.takes l c = true) :
    (∃ (u : State) (body : List Byte) (after : AfterSend), u.pending = s.pending ∧
      takeRequest l c act s = u.answered l (requestFrame c).1 (.accepted body after)) ∨
    (∃ (code : RefusalCode) (carried : Option TakeState),
      takeRequest l c act s = s.answered l (requestFrame c).1 (.refused code carried)) := by
  rcases judgedFrame_cases (requestFrame c).1 (requestFrame c).2 with hj | ⟨code, hj⟩
  · obtain ⟨hkeeps, hrefused⟩ := hact (s.modLink l LinkPort.leaveDone)
    rw [takeRequest_taken h hj]
    generalize act (s.modLink l LinkPort.leaveDone) = done at hkeeps hrefused
    obtain ⟨u, r⟩ := done
    cases r with
    | accepted body after =>
      refine .inl ⟨u, body, after, hkeeps.pending, State.modLink_congr ?_⟩
      have hdone : (u.link l).assembler.isDone = false := by
        rw [(hkeeps.links l).assembler, State.modLink_link_self]
        exact (s.link l).leaveDone_isDone
      rw [LinkPort.leaveDone_eq_self hdone]
    | refused code carried =>
      obtain rfl := hrefused code carried rfl
      exact .inr ⟨code, carried, State.leaveDone_answer s l _ _⟩
  · exact .inr ⟨code, none, takeRequest_refused h hj⟩

/-- Settles O4: a request's block acts on the link out of DONE, and refuses only where it has done nothing. -/
theorem takenRequestIsAcceptedOrRefused : Obligations.TakenRequestIsAcceptedOrRefused := by
  intro c l s hl htakes
  obtain ⟨act, hact, hexec⟩ := exec_of_requestLink hl
  rw [hexec]
  rcases takeRequest_acceptedOrRefused hact htakes with ⟨u, body, after, hpending, htaken⟩ | ⟨code, carried, htaken⟩
  · exact .inl ⟨u, body, after, hpending, congrArg _ htaken⟩
  · exact .inr ⟨code, carried, congrArg _ htaken⟩

theorem LinkPort.holdOutcome_idle {p : LinkPort} (h : p.assembler = .idle) (held : HeldOutcome) :
    p.holdOutcome held = { p with assembler := .done held } := by
  simp only [LinkPort.holdOutcome, h]

theorem LinkPort.holdOutcome_busy {p : LinkPort} (h : p.assembler ≠ .idle) (held : HeldOutcome) : p.holdOutcome held = p := by
  unfold LinkPort.holdOutcome
  split
  · exact absurd ‹_› h
  all_goals rfl

/-- Settles O5: a link that is not free holds the request where its assembler can; a free link passes it over. -/
theorem untakenRequestIsHeld : Obligations.UntakenRequestIsHeld := by
  intro c l s hl htakes
  obtain ⟨act, -, hexec⟩ := exec_of_requestLink hl
  rw [hexec]
  refine ⟨fun ⟨hfree, hidle⟩ => ?held, fun h => congrArg _ ?passed⟩
  case held =>
    rw [takeRequest_held hfree]
    exact next_modLink_congr (LinkPort.holdOutcome_idle hidle _)
  case passed =>
    cases hfree : (s.link l).free with
    | true => exact takeRequest_ignored htakes hfree
    | false =>
      have hbusy : (s.link l).assembler ≠ .idle := h.resolve_left (by simp [hfree])
      rw [takeRequest_held hfree]
      exact State.modLink_eq_self (LinkPort.holdOutcome_busy hbusy _)

end Sys2Proof.Machine

/-! PROOFS. Answers, notices and SET LINK (chapters 08, 09 and 11): the response frame an answered link holds, the frames of the notices
with the fields and codes they are made of, READ CLOCK, and the divisor of a link. -/

namespace Sys2Proof.Machine

set_option Elab.async false

open Sys2Proof

/-! ### An answered link (R153, R158, R159) -/

section answered

variable (s : State) (l : LinkId) (kind : Byte) (r : Reply)

theorem State.answered_link : (s.answered l kind r).link l = (s.link l).leaveDone.answer kind r := State.modLink_link_self _ _ _

theorem State.answered_link_of_ne {k : LinkId} (h : k ≠ l) : (s.answered l kind r).link k = s.link k := State.modLink_link_of_ne _ _ _ h

/-- R149, R158, R159, R179: what an answer changes of its link, and the count of characters it is still to send. -/
theorem LinkPort.answer_eq (p : LinkPort) :
    p.answer kind r =
      { p with
        response := some ⟨r.frame kind, 0, r.carried⟩
        pendingDivisor := match r with
          | .accepted _ (.divisor d) => some ⟨d, p.charsAhead + (r.frame kind).length⟩
          | _ => p.pendingDivisor
        restartAfter := match r with
          | .accepted _ .restart => some (p.charsAhead + (r.frame kind).length)
          | _ => p.restartAfter } := by
  cases r with
  | refused code carried => rfl
  | accepted body after => cases after <;> rfl

/-- R158: leaving DONE, and nothing else of the link. -/
theorem LinkPort.leaveDone_eq_match (p : LinkPort) :
    p.leaveDone =
      { p with
        assembler := match p.assembler with
          | .done _ => .idle
          | a => a } := by
  cases h : p.assembler <;> simp only [LinkPort.leaveDone, h] <;> rw [← h]

/-- R153: the characters of a frame sum to 0 modulo 256. -/
theorem frameChars_sum (lead : Byte) (body : List Byte) : ((frameChars lead body).map TxChar.data).foldl (· + ·) 0#8 = 0#8 := by
  have hdata : (frameChars lead body).map TxChar.data = lead :: char body.length :: body ++ [checkChar lead body] := by
    simp [frameChars, Function.comp_def]
  rw [hdata, List.foldl_append, List.foldl_cons, List.foldl_cons, BitVec.zero_add, List.foldl_cons, List.foldl_nil, checkChar]
  exact add_sub_cancel _ _

end answered

/-- Settles O6: the answered link field by field, the other links and blocks, and the two response frames. -/
theorem answerFrames : Obligations.AnswerFrames := by
  refine ⟨fun s l kind r => ⟨?link, ?_, fun k hk => s.answered_link_of_ne l kind r hk, rfl⟩, fun kind body after => ?frame,
    fun kind code carried => rfl, frameChars_sum⟩
  case link =>
    rw [State.answered_link, LinkPort.answer_eq, LinkPort.leaveDone_eq_match]
    rfl
  case frame => simp [Reply.frame, frameChars]
  · rw [State.answered_link, LinkPort.answer_assembler]
    exact (s.link l).leaveDone_isDone

/-! ### Notices and fields (R165, R182, 11.4, 11.7) -/

theorem char_toNat (n : Nat) : (char n).toNat = n % 256 := BitVec.toNat_ofNat n 8

theorem char_toNat_of_lt {n : Nat} (h : n < 256) : (char n).toNat = n := (char_toNat n).trans (Nat.mod_eq_of_lt h)

/-- R153, R165, 11.7: the frame of a queued notice from its header and its detail. -/
theorem QueuedNotice.frame_eq {b : NoticeBody} {tick entered subject : Nat} {gap : Bool} {code : Byte} {detail : List Byte}
    (hcode : b.kindCode = code) (hsubject : b.subject = subject) (hdetail : b.detail = detail) :
    (QueuedNotice.mk ⟨b, tick⟩ gap entered).frame =
      frameChars 0xFE#8 ([code, flagChar gap] ++ tickChars tick ++ bytesOf 2 subject ++ detail) := by
  rw [← hcode, ← hsubject, ← hdetail]
  rfl

/-- Settles O9: each notice by its class, kind code, subject and detail; the fields and codes by their definitions. -/
theorem noticeFramesAndFieldCodes : Obligations.NoticeFramesAndFieldCodes := by
  refine ⟨fun b tick entered gap => ?notice, fun n v => ⟨bytesOf_length n v, natOf_bytesOf n v⟩, fun n v => rfl, fun _ => rfl,
    fun _ => rfl, rfl, rfl, char_toNat, fun _ _ => rfl, fun _ => rfl, fun l i => ⟨char_toNat_of_lt ?_, char_toNat_of_lt ?_⟩, rfl,
    fun _ _ _ _ => ⟨rfl, rfl⟩, rfl, rfl, rfl, rfl, rfl, rfl, rfl, rfl, rfl, rfl, rfl, rfl, rfl, rfl, rfl, rfl, rfl, rfl, rfl,
    fun i => char_toNat_of_lt ?_, rfl⟩
  case notice =>
    cases b with
    | takeState id prev now cause actor start fin =>
      exact ⟨rfl, QueuedNotice.frame_eq rfl rfl (by rw [NoticeBody.detail, flagsChar_two])⟩
    | autoRollRefused | marksFull | clap | looseClap | laneState | slip | dropout | houseChanged | referenceState | saveDone =>
      exact ⟨rfl, QueuedNotice.frame_eq rfl rfl rfl⟩
  all_goals omega

/-! ### READ CLOCK (R163) -/

/-- Settles O40: READ CLOCK's block changes nothing; its two status flags share a character. -/
theorem readClockReturnsFifteen : Obligations.ReadClockReturnsFifteen := by
  intro l s htakes
  refine ⟨?answer, by simp [tickChars, labelChars]⟩
  case answer =>
    rw [← flagsChar_two]
    exact congrArg Host.Outcome.next (takeRequest_reads htakes (Laws.BodyFits.readClock l rfl rfl) fun _ => rfl)

/-! ### SET LINK (R148, R149) -/

theorem linkOf_of_toNat_eq {b : Byte} {k : LinkId} (h : b.toNat = k.val) : linkOf b = some k := by
  unfold linkOf
  rw [dif_pos (h ▸ k.isLt)]
  exact congrArg some (Fin.ext h)

theorem linkOf_of_lt {b : Byte} (h : 3 < b.toNat) : linkOf b = none := dif_neg (Nat.not_lt.mpr h)

/-- Updates of two links commute. -/
theorem State.modLink_comm (s : State) {k l : LinkId} (h : k ≠ l) (f g : LinkPort → LinkPort) :
    (s.modLink l f).modLink k g = (s.modLink k g).modLink l f := by
  have hlinks : ((s.modLink l f).modLink k g).links = ((s.modLink k g).modLink l f).links := by
    refine Four.ext_get fun j => ?_
    change ((s.modLink l f).modLink k g).link j = ((s.modLink k g).modLink l f).link j
    by_cases hk : j = k
    · subst hk
      rw [State.modLink_link_self, State.modLink_link_of_ne _ _ _ h, State.modLink_link_of_ne _ _ _ h, State.modLink_link_self]
    · by_cases hl : j = l
      · subst hl
        rw [State.modLink_link_of_ne _ _ _ hk, State.modLink_link_self, State.modLink_link_self, State.modLink_link_of_ne _ _ _ hk]
      · rw [State.modLink_link_of_ne _ _ _ hk, State.modLink_link_of_ne _ _ _ hl, State.modLink_link_of_ne _ _ _ hl,
          State.modLink_link_of_ne _ _ _ hk]
  exact congrArg (fun v => ({ s with links := v } : State)) hlinks

/-- R149: the response of SET LINK: the link, the divisor as stored and its bit rate. -/
def setLinkBody (link : Byte) (d : Nat) : List Byte := [link] ++ bytesOf 2 d ++ bitRateChars d

theorem bitRateChars_length (d : Nat) : (bitRateChars d).length = 3 := by
  unfold bitRateChars
  split <;> exact bytesOf_length _ _

theorem setLinkBody_length (link : Byte) (d : Nat) : (setLinkBody link d).length = 6 := by
  simp [setLinkBody, bitRateChars_length]

section setLink

variable {l : LinkId} {link : Byte} {divisor : BitVec 16} {s : State} (h : s.takes l (.setLink l link divisor) = true)
include h

theorem exec_setLink_refused (hlink : linkOf link = none) :
    exec (.setLink l link divisor) s = .next (s.answered l 0x1F#8 (.no .badValue)) := by
  refine congrArg Host.Outcome.next (takeRequest_acts h (Laws.BodyFits.setLink l link divisor rfl rfl) ?_)
  simp only [setLinkRequest, hlink]

theorem exec_setLink_other {k : LinkId} (hlink : linkOf link = some k) (hk : k ≠ l) :
    exec (.setLink l link divisor) s = .next
      ((s.modLink k (fun p => p.installDivisor (clampDivisor divisor.toNat))).answered l 0x1F#8
        (.ok (setLinkBody link (clampDivisor divisor.toNat)))) := by
  refine congrArg Host.Outcome.next (takeRequest_acts h (Laws.BodyFits.setLink l link divisor rfl rfl) ?_)
  simp only [setLinkRequest, hlink, if_neg hk, State.modLink_comm s hk]
  rfl

theorem exec_setLink_own (hlink : linkOf link = some l) :
    exec (.setLink l link divisor) s = .next (s.answered l 0x1F#8
      (.accepted (setLinkBody link (clampDivisor divisor.toNat)) (.divisor (clampDivisor divisor.toNat)))) := by
  refine congrArg Host.Outcome.next (takeRequest_acts h (Laws.BodyFits.setLink l link divisor rfl rfl) ?_)
  simp only [setLinkRequest, hlink, if_true]
  rfl

end setLink

/-- Settles O50: SET LINK by the link its field names; a pending divisor waits for the response's 9 characters and those ahead. -/
theorem setLinkDivisor : Obligations.SetLinkDivisor := by
  intro l link divisor s htakes
  refine ⟨fun hlink => exec_setLink_refused htakes (linkOf_of_lt hlink),
    fun k hlink hk => exec_setLink_other htakes (linkOf_of_toNat_eq hlink) hk,
    fun hlink => ⟨exec_setLink_own htakes (linkOf_of_toNat_eq hlink), ?divisor, ?pending⟩, fun hwhole => if_pos hwhole,
    bitRateChars_length _⟩
  case divisor => rw [State.answered_link, LinkPort.answer_eq, LinkPort.leaveDone_eq_match]
  case pending =>
    have hlength := setLinkBody_length link (clampDivisor divisor.toNat)
    rw [State.answered_link, LinkPort.answer_eq, LinkPort.leaveDone_eq_match, Reply.frame_length]
    exact congrArg (fun n => some (PendingDivisor.mk _ ((s.link l).charsAhead + (n + 3)))) hlength

end Sys2Proof.Machine

/-! PROOFS. The receive path and the frame assembler (chapter 08): what a received character, a break and its end do to a link, what the
assembler does with the character it takes, the silence timer, and a refusal held in DONE. -/

namespace Sys2Proof.Machine

set_option Elab.async false

open Sys2Proof

/-! ### The receive FIFO (R150 to R152) -/

section receive

variable {p : LinkPort} {data : Byte} {lead framing : Bool}

/-- R150, R151: a character stored with its tag, and the hold output at the new count. -/
theorem LinkPort.receive_stores (hb : p.inBreak = false) (hroom : p.rx.length < 32) :
    p.receive data lead framing =
      { p with
        rx := p.rx ++ [⟨data, lead, rxTagOf p.overrunMark framing⟩]
        hold := holdAfter p.hold (p.rx.length + 1)
        overrunMark := false } := by
  simp [LinkPort.receive, LinkPort.withRx, hb, hroom]

theorem LinkPort.receive_loses (hb : p.inBreak = false) (hfull : 32 ≤ p.rx.length) :
    p.receive data lead framing = { p with overrunMark := true } := by
  simp [LinkPort.receive, hb, Nat.not_lt.mpr hfull]

theorem LinkPort.receive_inBreak (hb : p.inBreak = true) : p.receive data lead framing = p := if_pos hb

/-- R152: a break empties the FIFO, and of the assembler keeps an outcome in DONE alone. -/
theorem LinkPort.enterBreak_clears (hb : p.inBreak = false) :
    p.enterBreak =
      { p with
        inBreak := true
        rx := []
        hold := false
        overrunMark := false
        assembler := match p.assembler with
          | .done h => .done h
          | _ => .idle } := by
  unfold LinkPort.enterBreak
  rw [if_neg (Bool.eq_false_iff.mp hb)]
  cases p.assembler <;> rfl

theorem LinkPort.enterBreak_inBreak (hb : p.inBreak = true) : p.enterBreak = p := if_pos hb

end receive

/-- Settles O47: a received character by the break and the room, and a break by whether the link is in one. -/
theorem receivePath : Obligations.ReceivePath := by
  intro l s
  refine ⟨fun data lead framing => ⟨fun hb hroom => ?stored, fun hb hfull => ?lost, fun hb => ?deaf⟩, fun hb => ?broken,
    fun hb => ?again, rfl⟩
  case stored => exact next_modLink_congr (LinkPort.receive_stores hb hroom)
  case lost => exact next_modLink_congr (LinkPort.receive_loses hb hfull)
  case deaf => exact next_modLink_eq_self (LinkPort.receive_inBreak hb)
  case broken => exact next_modLink_congr (LinkPort.enterBreak_clears hb)
  case again => exact next_modLink_eq_self (LinkPort.enterBreak_inBreak hb)

/-! ### The assembler (R154, R155, R157) -/

section assembler

variable {a : Assembler} {c : RxChar} {k : Byte}

theorem Assembler.isDone_of_midFrame (h : a.midFrame = some k) : a.isDone = false := by
  cases a with
  | idle | done => exact nomatch h
  | length | body | check => rfl

theorem Assembler.takeChar_clean (hc : c.tag = .clean) : a.takeChar c = a.takeClean c := by
  simp only [Assembler.takeChar, hc]

theorem Assembler.takeChar_tagged (hc : c.tag ≠ .clean) : a.takeChar c = a.takeTagged c := by
  unfold Assembler.takeChar
  split
  · exact absurd ‹_› hc
  all_goals rfl

/-- R154: a lead begins a frame, whatever stood before it. -/
theorem Assembler.takeClean_lead (hlead : c.lead = true) (ha : a.isDone = false) : a.takeClean c = .length c.data := by
  cases a with
  | done held => exact nomatch ha
  | idle | length k | body k n got | check k got => exact if_pos hlead

section notLead

variable (hlead : c.lead = false)
include hlead

theorem Assembler.takeClean_idle : Assembler.idle.takeClean c = .idle := if_neg (Bool.eq_false_iff.mp hlead)

theorem Assembler.takeClean_length : (Assembler.length k).takeClean c =
    if 60 < c.data.toNat then .done (.refusal k .badLength)
    else if c.data = 0#8 then .check k [] else .body k c.data.toNat [] := by
  have hzero : c.data.toNat = 0 ↔ c.data = 0#8 := by simp [BitVec.toNat_eq]
  simp only [Assembler.takeClean, hlead, hzero]
  rfl

theorem Assembler.takeClean_body {n : Nat} {got : List Byte} : (Assembler.body k n got).takeClean c =
    if got.length + 1 < n then .body k n (got ++ [c.data]) else .check k (got ++ [c.data]) := by
  simp only [Assembler.takeClean, hlead, ← Nat.not_lt, ite_not]
  rfl

/-- R155: the check character, and then the two checks that the table of R182 gives. -/
theorem Assembler.takeClean_check {got : List Byte} : (Assembler.check k got).takeClean c =
    .done (if got.foldl (· + ·) (k + char got.length) + c.data ≠ 0#8 then .refusal k .badCheck
      else if allowedLengths k = [] then .refusal k .unknownKind
      else if got.length ∈ allowedLengths k then .request k got else .refusal k .badLength) := by
  simp only [Assembler.takeClean, hlead, judgeCheck, sumHolds, judgedFrame, kindNamesRequest]
  simp

end notLead

theorem Assembler.takeTagged_idle : Assembler.idle.takeTagged c = if c.lead then .done (.refusal c.data .lineError) else .idle := rfl

/-- R157: a tagged character ends the frame in assembly with LINE_ERROR. -/
theorem Assembler.takeTagged_midFrame (h : a.midFrame = some k) : a.takeTagged c = .done (.refusal k .lineError) := by
  cases a with
  | length | body | check =>
    obtain rfl := Option.some.inj h
    rfl
  | idle | done => exact nomatch h

end assembler

/-! ### A link that takes a character, its silence timer, and a held refusal (R154, R156, R158) -/

section link

variable {l : LinkId} {s : State} {c : RxChar} {rest : List RxChar}

theorem exec_characterTaken_empty (hrx : (s.link l).rx = []) : exec (.characterTaken l) s = .next s := by
  refine next_modLink_eq_self ?_
  simp only [LinkPort.takeChar, hrx]

theorem exec_characterTaken_done (hrx : (s.link l).rx = c :: rest) (ha : (s.link l).assembler.isDone = true) :
    exec (.characterTaken l) s = .next s := by
  refine next_modLink_eq_self ?_
  simp only [LinkPort.takeChar, hrx, ha, if_true]

/-- R151, R154: the head character leaves the receive FIFO for the assembler. -/
theorem exec_characterTaken {a : Assembler} (hrx : (s.link l).rx = c :: rest) (hdone : (s.link l).assembler.isDone = false)
    (ha : (s.link l).assembler.takeChar c = a) :
    exec (.characterTaken l) s = .next (s.modLink l (fun p =>
      { p with
        rx := rest
        hold := holdAfter p.hold rest.length
        assembler := a })) := by
  refine next_modLink_congr ?_
  simp only [LinkPort.takeChar, LinkPort.withRx, hrx, hdone, ha]
  rfl

theorem exec_silenceTimerExpiry_midFrame {k : Byte} (hrx : (s.link l).rx = []) (hk : (s.link l).assembler.midFrame = some k) :
    exec (.silenceTimerExpiry l) s = .next (s.modLink l (fun p => { p with assembler := .done (.refusal k .incomplete) })) := by
  refine next_modLink_congr ?_
  simp only [LinkPort.silenceTimer, hk, hrx, List.isEmpty_nil, if_true]

theorem exec_silenceTimerExpiry_ignored (h : (s.link l).rx ≠ [] ∨ (s.link l).assembler.midFrame = none) :
    exec (.silenceTimerExpiry l) s = .next s := by
  refine next_modLink_eq_self ?_
  unfold LinkPort.silenceTimer
  split
  · rename_i k hk
    exact if_neg (by simpa [hk] using h)
  · rfl

theorem exec_assemblerRefusal_free {k : Byte} {code : RefusalCode} (ha : (s.link l).assembler = .done (.refusal k code))
    (hfree : (s.link l).free = true) : exec (.assemblerRefusal l) s = .next (s.answered l k (.no code)) := by
  refine next_modLink_congr ?_
  simp only [LinkPort.takeRefusal, LinkPort.leaveDone, ha, hfree, if_true]

theorem exec_assemblerRefusal_busy (hfree : (s.link l).free = false) : exec (.assemblerRefusal l) s = .next s := by
  refine next_modLink_eq_self ?_
  unfold LinkPort.takeRefusal
  split
  · exact if_neg (Bool.eq_false_iff.mp hfree)
  all_goals rfl

theorem exec_assemblerRefusal_none (ha : ∀ k code, (s.link l).assembler ≠ .done (.refusal k code)) :
    exec (.assemblerRefusal l) s = .next s := by
  refine next_modLink_eq_self ?_
  unfold LinkPort.takeRefusal
  split
  · exact absurd ‹_› (ha _ _)
  all_goals rfl

end link

/-- Settles O48: the character taken by its tag, its lead and the assembler's state; the timer and the refusal by their conditions. -/
theorem assemblerMoves : Obligations.AssemblerMoves := by
  intro l s
  refine ⟨fun c rest hrx => ⟨exec_characterTaken_done hrx, fun hc hlead hdone => ?lead,
      fun hc hlead => ⟨fun ha => ?idle, fun k ha => ?length, fun k n got ha => ?body, fun k got ha => ?check⟩,
      fun hc => ⟨fun ha => ?taggedIdle, fun k hk => ?taggedFrame⟩⟩, exec_characterTaken_empty,
    fun k => exec_silenceTimerExpiry_midFrame, exec_silenceTimerExpiry_ignored,
    fun k code ha => ⟨exec_assemblerRefusal_free ha, exec_assemblerRefusal_busy⟩, exec_assemblerRefusal_none⟩
  case lead => exact exec_characterTaken hrx hdone ((Assembler.takeChar_clean hc).trans (Assembler.takeClean_lead hlead hdone))
  case idle =>
    refine exec_characterTaken hrx (ha ▸ rfl) ?_
    rw [Assembler.takeChar_clean hc, ha, Assembler.takeClean_idle hlead]
  case length =>
    refine exec_characterTaken hrx (ha ▸ rfl) ?_
    rw [Assembler.takeChar_clean hc, ha, Assembler.takeClean_length hlead]
  case body =>
    refine exec_characterTaken hrx (ha ▸ rfl) ?_
    rw [Assembler.takeChar_clean hc, ha, Assembler.takeClean_body hlead]
  case check =>
    refine exec_characterTaken hrx (ha ▸ rfl) ?_
    rw [Assembler.takeChar_clean hc, ha, Assembler.takeClean_check hlead]
  case taggedIdle =>
    refine exec_characterTaken hrx (ha ▸ rfl) ?_
    rw [Assembler.takeChar_tagged hc, ha, Assembler.takeTagged_idle]
  case taggedFrame =>
    exact exec_characterTaken hrx (Assembler.isDone_of_midFrame hk)
      ((Assembler.takeChar_tagged hc).trans (Assembler.takeTagged_midFrame hk))

end Sys2Proof.Machine

/-! PROOFS. The transmit path (chapters 08 and 09): the feeder with the waiting response or a notice, the head of a released notice queue,
and the character sent, to a pending divisor and the start-up of a RESTART. -/

namespace Sys2Proof.Machine

set_option Elab.async false

open Sys2Proof

/-! ### The feeder (R160, R169, R170) -/

section feeder

variable {p : LinkPort} {c : TxChar} {rest : List TxChar}

theorem LinkPort.txRoom_iff : p.txRoom = true ↔ p.tx.length < 32 := decide_eq_true_iff

theorem LinkPort.txRoom_eq_false (h : 32 ≤ p.tx.length) : p.txRoom = false := decide_eq_false (Nat.not_lt.mpr h)

theorem not_isEmpty_eq {α : Type} (xs : List α) [Decidable (xs ≠ [])] : (!xs.isEmpty) = decide (xs ≠ []) := by
  cases xs <;> simp

theorem isEmpty_ite {α β : Type} (xs : List α) (a b : β) : (if xs.isEmpty then a else b) = if xs = [] then a else b := by
  cases xs <;> rfl

/-- R160: a waiting response goes before any notice. -/
theorem LinkPort.feed_response {w : WaitingResponse} (hf : p.feeder = .free ∨ p.feeder = .response) (hw : p.response = some w) :
    p.feed = p.feedResponse w := by
  rcases hf with hf | hf <;> simp only [LinkPort.feed, hf, hw]

theorem LinkPort.feed_notice {entered : Bool} (hf : p.feeder = .notice entered rest) : p.feed = p.feedNotice entered rest := by
  simp only [LinkPort.feed, hf]

theorem LinkPort.feed_nothing (hf : p.feeder = .free) (hw : p.response = none) : p.feed = p := by
  simp only [LinkPort.feed, hf, hw]

/-- R160: the next character of a response enters; the last leaves the feeder free and no response waiting. -/
theorem LinkPort.feedResponse_enters {w : WaitingResponse} (hnext : w.frame.drop w.fed = c :: rest) (hroom : p.tx.length < 32) :
    p.feedResponse w =
      { p with
        tx := p.tx ++ [c]
        sending := p.sending || !p.pause
        response := if rest = [] then none else some { w with fed := w.fed + 1 }
        feeder := if rest = [] then .free else .response } := by
  simp only [LinkPort.feedResponse, hnext, LinkPort.txRoom_iff.mpr hroom]
  cases rest <;> rfl

theorem LinkPort.feedResponse_waits {w : WaitingResponse} (hnext : w.frame.drop w.fed = c :: rest) (hfull : 32 ≤ p.tx.length) :
    p.feedResponse w = { p with feeder := .response } := by
  simp only [LinkPort.feedResponse, hnext, LinkPort.txRoom_eq_false hfull]
  rfl

/-- R169, R170: the next character of a notice enters; the first takes the notice off the queue. -/
theorem LinkPort.feedNotice_enters (entered : Bool) (hroom : p.tx.length < 32) :
    p.feedNotice entered (c :: rest) =
      { p with
        tx := p.tx ++ [c]
        sending := p.sending || !p.pause
        queue := if entered then p.queue else p.queue.drop 1
        release := if entered then p.release else p.release && decide (p.queue.drop 1 ≠ [])
        batchExpiry := if entered then p.batchExpiry else if p.queue.drop 1 = [] then none else p.batchExpiry
        feeder := if rest = [] then .free else .notice true rest } := by
  simp only [LinkPort.feedNotice, LinkPort.txRoom_iff.mpr hroom, if_true, isEmpty_ite]
  cases entered with
  | true => rfl
  | false =>
    simp only [LinkPort.noticeLeaves, LinkPort.pushTx, isEmpty_ite, not_isEmpty_eq]
    rfl

theorem LinkPort.feedNotice_waits (entered : Bool) (hfull : 32 ≤ p.tx.length) : p.feedNotice entered (c :: rest) = p := by
  simp only [LinkPort.feedNotice, LinkPort.txRoom_eq_false hfull]
  rfl

end feeder

/-! ### The head of a released queue (R169, R170) -/

section notice

variable {p : LinkPort} {q : QueuedNotice} {qs : List QueuedNotice}

/-- R153: a frame has more characters than its lead. -/
theorem QueuedNotice.frame_tail_ne_nil {c : TxChar} {rest : List TxChar} (h : q.frame = c :: rest) : rest ≠ [] := by
  rintro rfl
  have hlength : q.frame.length = q.body.length + 3 := frameChars_length _ _
  rw [h, List.length_singleton] at hlength
  omega

theorem LinkPort.takeNotice_ready (hq : p.queue = q :: qs) (hready : p.noticeReady = true) :
    p.takeNotice = ({ p with feeder := .notice false q.frame } : LinkPort).feedNotice false q.frame := by
  simp only [LinkPort.takeNotice, hq, hready, if_true]

theorem LinkPort.takeNotice_notReady (hready : p.noticeReady = false) : p.takeNotice = p := by
  unfold LinkPort.takeNotice
  split
  · exact if_neg (Bool.eq_false_iff.mp hready)
  · rfl

theorem LinkPort.takeNotice_enters {c : TxChar} {rest : List TxChar} (hq : p.queue = q :: qs) (hready : p.noticeReady = true)
    (hframe : q.frame = c :: rest) (hroom : p.tx.length < 32) :
    p.takeNotice =
      { p with
        tx := p.tx ++ [c]
        sending := p.sending || !p.pause
        queue := qs
        release := decide (qs ≠ [])
        batchExpiry := if qs = [] then none else p.batchExpiry
        feeder := .notice true rest } := by
  obtain ⟨-, -, hrelease, -, -⟩ := p.noticeReady_iff.mp hready
  rw [LinkPort.takeNotice_ready hq hready, hframe, LinkPort.feedNotice_enters]
  · simp [hq, hrelease, QueuedNotice.frame_tail_ne_nil hframe]
  · exact hroom

theorem LinkPort.takeNotice_waits (hq : p.queue = q :: qs) (hready : p.noticeReady = true) (hfull : 32 ≤ p.tx.length) :
    p.takeNotice = { p with feeder := .notice false q.frame } := by
  rw [LinkPort.takeNotice_ready hq hready]
  exact LinkPort.feedNotice_waits false hfull

end notice

/-! ### The character sent (R149, R161, R179) -/

section sent

variable {p : LinkPort}

theorem LinkPort.isSending_iff : p.isSending = true ↔ p.sending = true ∧ p.tx ≠ [] := by
  simp [LinkPort.isSending]

/-- R149: a pending divisor one character nearer to its response's end, or in force. -/
theorem LinkPort.countDivisor_eq (p : LinkPort) :
    p.countDivisor =
      { p with
        divisor := match p.pendingDivisor with
          | some d => if d.after ≤ 1 then d.value else p.divisor
          | none => p.divisor
        pendingDivisor := match p.pendingDivisor with
          | some d => if d.after ≤ 1 then none else some ⟨d.value, d.after - 1⟩
          | none => none } := by
  unfold LinkPort.countDivisor
  cases h : p.pendingDivisor with
  | none => simp only [← h]
  | some d =>
    dsimp only
    split <;> rfl

theorem LinkPort.charSent_eq {c : TxChar} {rest : List TxChar} (htx : p.tx = c :: rest) :
    p.charSent =
      { p with
        tx := rest
        sending := !p.pause && decide (rest ≠ [])
        divisor := match p.pendingDivisor with
          | some d => if d.after ≤ 1 then d.value else p.divisor
          | none => p.divisor
        pendingDivisor := match p.pendingDivisor with
          | some d => if d.after ≤ 1 then none else some ⟨d.value, d.after - 1⟩
          | none => none
        restartAfter := p.restartAfter.map (· - 1) } := by
  rw [LinkPort.charSent, LinkPort.countDivisor_eq, LinkPort.countRestart, LinkPort.finishChar, htx, List.drop_one, List.tail_cons,
    not_isEmpty_eq]

variable {l : LinkId} {s : State}

theorem exec_characterSent_idle (h : (s.link l).sending = false ∨ (s.link l).tx = []) : exec (.characterSent l) s = .next s := by
  have hidle : ¬ (s.link l).isSending = true := fun hs => by
    obtain ⟨hsending, htx⟩ := LinkPort.isSending_iff.mp hs
    exact h.elim (fun hoff => Bool.false_ne_true (hoff.symm.trans hsending)) htx
  exact congrArg Host.Outcome.next (if_neg hidle)

section sends

variable (hs : (s.link l).isSending = true)
include hs

/-- R179: the last character of an accepted RESTART's response brings start-up. -/
theorem exec_characterSent_last (hlast : (s.link l).restartAfter = some 1) : exec (.characterSent l) s = .next s.startUp := by
  have hzero : ((s.modLink l LinkPort.charSent).link l).restartAfter = some 0 := by
    rw [State.modLink_link_self, LinkPort.charSent_restartAfter, hlast]
    rfl
  refine congrArg Host.Outcome.next ?_
  simp only [State.sendChar, hs, if_true, hzero]
  exact State.startUp_modLink (s.link l).charSent_pause

theorem exec_characterSent_counts (hmore : (s.link l).restartAfter = none ∨ ∃ n, (s.link l).restartAfter = some (n + 2)) :
    exec (.characterSent l) s = .next (s.modLink l LinkPort.charSent) := by
  have hzero : ¬ ((s.modLink l LinkPort.charSent).link l).restartAfter = some 0 := by
    rw [State.modLink_link_self, LinkPort.charSent_restartAfter]
    rcases hmore with hnone | ⟨n, hn⟩
    · simp [hnone]
    · simp [hn]
  refine congrArg Host.Outcome.next ?_
  simp only [State.sendChar, hs, if_true, hzero, if_false]

end sends

end sent

/-- Settles O49: the feeder by its frame and the room, the ready notice, and a character sent by what its link waits for. -/
theorem transmitPath : Obligations.TransmitPath := by
  intro l s
  refine ⟨fun w c rest hf hw hnext => ⟨fun hroom => ?responseEnters, fun hfull => ?responseWaits⟩,
    fun entered c rest hf => ⟨fun hroom => ?noticeEnters, fun hfull => ?noticeWaits⟩, fun hf hw => ?nothing,
    fun q qs c rest hf hw hrelease hrestart hq hframe => ?taken, fun hready => ?notReady, fun c rest hsending htx => ?sent,
    exec_characterSent_idle, rfl, ?released⟩
  case responseEnters =>
    exact next_modLink_congr ((LinkPort.feed_response hf hw).trans (LinkPort.feedResponse_enters hnext hroom))
  case responseWaits =>
    exact next_modLink_congr ((LinkPort.feed_response hf hw).trans (LinkPort.feedResponse_waits hnext hfull))
  case noticeEnters =>
    exact next_modLink_congr ((LinkPort.feed_notice hf).trans (LinkPort.feedNotice_enters entered hroom))
  case noticeWaits =>
    exact next_modLink_eq_self ((LinkPort.feed_notice hf).trans (LinkPort.feedNotice_waits entered hfull))
  case nothing => exact next_modLink_eq_self (LinkPort.feed_nothing hf hw)
  case taken =>
    have hready : (s.link l).noticeReady = true :=
      (s.link l).noticeReady_iff.mpr ⟨hf, hw, hrelease, hrestart, hq ▸ List.cons_ne_nil q qs⟩
    exact ⟨fun hroom => next_modLink_congr (LinkPort.takeNotice_enters hq hready hframe hroom),
      fun hfull => next_modLink_congr (LinkPort.takeNotice_waits hq hready hfull)⟩
  case notReady => exact next_modLink_eq_self (LinkPort.takeNotice_notReady hready)
  case sent =>
    have hs : (s.link l).isSending = true := LinkPort.isSending_iff.mpr ⟨hsending, htx ▸ List.cons_ne_nil c rest⟩
    refine ⟨exec_characterSent_last hs, fun hmore => ?_⟩
    rw [exec_characterSent_counts hs hmore]
    exact next_modLink_congr (LinkPort.charSent_eq htx)
  case released =>
    refine next_modLink_congr ?_
    rw [LinkPort.releasePause, not_isEmpty_eq]

end Sys2Proof.Machine

/-! PROOFS. Notice queues (chapter 09): a notice handed to every link, SET NOTICES with what it settles of the queue, the release and the
batch expiry, and the batch expiry itself. -/

namespace Sys2Proof.Machine

set_option Elab.async false

open Sys2Proof

/-! ### A notice offered to a link (R166 to R169) -/

section offer

variable {p : LinkPort} {n : Notice} {now : Nat}

theorem LinkPort.offer_notSubscribed (h : p.subscribes n.body.noticeClass = false) : p.offer n now = p :=
  if_neg (Bool.eq_false_iff.mp h)

theorem LinkPort.offer_enters (h : p.subscribes n.body.noticeClass = true) (hroom : p.queue.length < 32) :
    p.offer n now = p.enqueue n now :=
  (if_pos h).trans (if_pos hroom)

theorem LinkPort.offer_lost (h : p.subscribes n.body.noticeClass = true) (hfull : 32 ≤ p.queue.length) :
    p.offer n now = { p with gap := true } :=
  (if_pos h).trans (if_neg (Nat.not_lt.mpr hfull))

/-- R167 to R169: a queue one notice longer, with the count after the entry held against the batch level. -/
theorem LinkPort.enqueue_eq (p : LinkPort) (n : Notice) (now : Nat) :
    p.enqueue n now =
      { p with
        queue := p.queue ++ [⟨n, p.gap, now⟩]
        gap := false
        release := p.release || decide (p.notices.level ≤ p.queue.length + 1)
        batchExpiry :=
          if (p.release || decide (p.notices.level ≤ p.queue.length + 1)) = true then none
          else if p.queue = [] then some (now + p.notices.timeout * 720) else p.batchExpiry } := by
  rw [← isEmpty_ite, ← LinkPort.enqueue_release p n now]
  simp only [LinkPort.enqueue, Config.ticksPerMs]

end offer

/-- Settles O8: each link by its subscription and the room in its queue. -/
theorem noticeHandover : Obligations.NoticeHandover := by
  intro s b
  refine ⟨rfl, fun k => ⟨fun hclass => ?notTaken, fun hclass hroom => ?queued, fun hclass hfull => ?lost⟩⟩
  all_goals rw [State.post_link]
  case notTaken => exact LinkPort.offer_notSubscribed hclass
  case queued => exact (LinkPort.offer_enters hclass hroom).trans (LinkPort.enqueue_eq _ _ _)
  case lost => exact LinkPort.offer_lost hclass hfull

/-! ### The release and the batch expiry settled (R172) -/

section reassess

variable {p : LinkPort} {q : QueuedNotice} {qs : List QueuedNotice} {now : Nat}

theorem LinkPort.reassess_empty (hqueue : p.queue = []) : p.reassess now = { p with release := false, batchExpiry := none } := by
  simp only [LinkPort.reassess, hqueue]

/-- R172 step 4: a release that is on stays on over a queue that is not empty. -/
theorem LinkPort.reassess_released (hqueue : p.queue = q :: qs) (hon : p.release = true) : p.reassess now = p := by
  simp only [LinkPort.reassess, hqueue, hon, if_true]

theorem LinkPort.reassess_releases (hqueue : p.queue = q :: qs) (hoff : p.release = false)
    (hready : p.notices.level ≤ p.queue.length ∨ q.entered + p.notices.timeout * 720 ≤ now) :
    p.reassess now = { p with release := true, batchExpiry := none } := by
  have hready' : p.notices.level ≤ (q :: qs).length ∨ q.entered + p.notices.timeout * Config.ticksPerMs ≤ now := hqueue ▸ hready
  simp only [LinkPort.reassess, hqueue, hoff, Bool.false_eq_true, if_false, if_pos hready']

theorem LinkPort.reassess_waits (hqueue : p.queue = q :: qs) (hoff : p.release = false) (hlevel : p.queue.length < p.notices.level)
    (hearly : now < q.entered + p.notices.timeout * 720) :
    p.reassess now = { p with batchExpiry := some (q.entered + p.notices.timeout * 720) } := by
  have hwait : ¬ (p.notices.level ≤ (q :: qs).length ∨ q.entered + p.notices.timeout * Config.ticksPerMs ≤ now) :=
    not_or.mpr ⟨Nat.not_le.mpr (hqueue ▸ hlevel), Nat.not_le.mpr hearly⟩
  simp only [LinkPort.reassess, hqueue, hoff, Bool.false_eq_true, if_false, if_neg hwait]

/-- R172: what is settled does not hang on the link's assembler. -/
theorem LinkPort.reassess_withAssembler (p : LinkPort) (now : Nat) (a : Assembler) :
    ({ p with assembler := a } : LinkPort).reassess now = { p.reassess now with assembler := a } := by
  unfold LinkPort.reassess
  dsimp only
  split
  · rfl
  · split
    · rfl
    · split <;> rfl

end reassess

/-! ### Notice settings applied to a link (R172) -/

/-- R172: notice settings stored and the notices of dropped classes removed, with the release and the batch expiry they settle. -/
def LinkPort.underNotices (p : LinkPort) (set : NoticeSettings) (release : Bool) (expiry : Option Nat) : LinkPort :=
  { p with
    notices := set
    queue := keepSubscribed set.classes p.queue
    feeder := p.feederAfterDrop set.classes
    release := release
    batchExpiry := expiry }

section applyNotices

variable {p : LinkPort} {set : NoticeSettings} {q : QueuedNotice} {qs : List QueuedNotice} {now : Nat}

/-- R172: settings are applied in two parts: what they store and drop, and what they then settle. -/
theorem LinkPort.applyNotices_eq_reassess (p : LinkPort) (set : NoticeSettings) (now : Nat) :
    p.applyNotices set now = (p.underNotices set p.release p.batchExpiry).reassess now := rfl

theorem LinkPort.applyNotices_empty (hkept : keepSubscribed set.classes p.queue = []) :
    p.applyNotices set now = p.underNotices set false none :=
  (p.applyNotices_eq_reassess set now).trans (LinkPort.reassess_empty hkept)

theorem LinkPort.applyNotices_released (hkept : keepSubscribed set.classes p.queue = q :: qs) (hon : p.release = true) :
    p.applyNotices set now = p.underNotices set true p.batchExpiry := by
  rw [LinkPort.applyNotices_eq_reassess, hon]
  exact LinkPort.reassess_released hkept rfl

theorem LinkPort.applyNotices_releases (hkept : keepSubscribed set.classes p.queue = q :: qs) (hoff : p.release = false)
    (hready : set.level ≤ (keepSubscribed set.classes p.queue).length ∨ q.entered + set.timeout * 720 ≤ now) :
    p.applyNotices set now = p.underNotices set true none :=
  (p.applyNotices_eq_reassess set now).trans (LinkPort.reassess_releases hkept hoff hready)

theorem LinkPort.applyNotices_waits (hkept : keepSubscribed set.classes p.queue = q :: qs) (hoff : p.release = false)
    (hlevel : (keepSubscribed set.classes p.queue).length < set.level) (hearly : now < q.entered + set.timeout * 720) :
    p.applyNotices set now = p.underNotices set false (some (q.entered + set.timeout * 720)) := by
  have hwaits : (p.underNotices set p.release p.batchExpiry).reassess now =
      p.underNotices set p.release (some (q.entered + set.timeout * 720)) :=
    LinkPort.reassess_waits hkept hoff hlevel hearly
  rw [LinkPort.applyNotices_eq_reassess, hwaits, hoff]

/-- R158, R172: settings and leaving DONE touch different parts of a link. -/
theorem LinkPort.applyNotices_leaveDone (p : LinkPort) (set : NoticeSettings) (now : Nat) :
    p.leaveDone.applyNotices set now = (p.applyNotices set now).leaveDone := by
  have hassembler : (p.applyNotices set now).assembler = p.assembler := by
    rw [LinkPort.applyNotices_eq_reassess, LinkPort.reassess_eq]
    rfl
  rw [LinkPort.leaveDone_eq_match, LinkPort.leaveDone_eq_match, hassembler]
  exact (p.underNotices set p.release p.batchExpiry).reassess_withAssembler now _

theorem LinkPort.noticeItems_leaveDone (p : LinkPort) : p.leaveDone.noticeItems = p.noticeItems := by
  rw [LinkPort.leaveDone_eq_match]
  rfl

end applyNotices

/-! ### SET NOTICES (R171) and the batch expiry (R169) -/

/-- R171: the settings SET NOTICES stores: its classes, its level clamped to 1 to 32, and its timeout. -/
def storedNotices (classes level timeout : Byte) : NoticeSettings :=
  ⟨classes.setWidth 5, max 1 (min 32 level.toNat), timeout.toNat⟩

section setNotices

variable {classes level timeout : Byte}

theorem noticeSettingsOf_refused (h : 31 < classes.toNat ∨ timeout = 0#8) : noticeSettingsOf classes level timeout = none :=
  if_pos (h.imp_right fun hzero => congrArg BitVec.toNat hzero)

theorem noticeSettingsOf_stored (hclasses : classes.toNat ≤ 31) (htimeout : timeout ≠ 0#8) :
    noticeSettingsOf classes level timeout = some (storedNotices classes level timeout) :=
  if_neg (not_or.mpr ⟨Nat.not_lt.mpr hclasses, fun hzero => htimeout (BitVec.eq_of_toNat_eq hzero)⟩)

/-- R171: the response of SET NOTICES: the settings as stored, the count of the queue it leaves and the GAP flag. -/
theorem LinkPort.underNotices_items (p : LinkPort) (classes level timeout : Byte) (release : Bool) (expiry : Option Nat) :
    (p.underNotices (storedNotices classes level timeout) release expiry).noticeItems =
      [(classes.setWidth 5).setWidth 8, char (storedNotices classes level timeout).level, timeout,
        char (keepSubscribed (classes.setWidth 5) p.queue).length, flagChar p.gap] := by
  have htimeout : char timeout.toNat = timeout := (BitVec.ofNat_toNat 8 timeout).trans (BitVec.setWidth_eq timeout)
  simp only [LinkPort.noticeItems, LinkPort.underNotices, storedNotices, htimeout]

variable {l : LinkId} {s : State} (h : s.takes l (.setNotices l classes level timeout) = true)
include h

theorem exec_setNotices_refused (hset : noticeSettingsOf classes level timeout = none) :
    exec (.setNotices l classes level timeout) s = .next (s.answered l 0x20#8 (.no .badValue)) := by
  refine congrArg Host.Outcome.next (takeRequest_acts h (Laws.BodyFits.setNotices l classes level timeout rfl rfl) ?_)
  simp only [setNoticesRequest, hset]

/-- R171, R172: SET NOTICES accepted: what its settings come to on the link, and the response that reads it. -/
theorem exec_setNotices_stores (hset : noticeSettingsOf classes level timeout = some (storedNotices classes level timeout))
    {release : Bool} {expiry : Option Nat}
    (happly : (s.link l).applyNotices (storedNotices classes level timeout) s.tick =
      (s.link l).underNotices (storedNotices classes level timeout) release expiry) :
    exec (.setNotices l classes level timeout) s = .next
      ((s.modLink l (fun p => p.underNotices (storedNotices classes level timeout) release expiry)).answered l 0x20#8
        (.ok [(classes.setWidth 5).setWidth 8, char (storedNotices classes level timeout).level, timeout,
          char (keepSubscribed (classes.setWidth 5) (s.link l).queue).length, flagChar (s.link l).gap])) := by
  have hcommute := s.modLink_leaveDone l (f := fun p => p.applyNotices (storedNotices classes level timeout) s.tick)
    fun p => p.applyNotices_leaveDone _ _
  have hstored : s.modLink l (fun p => p.applyNotices (storedNotices classes level timeout) s.tick) =
      s.modLink l (fun p => p.underNotices (storedNotices classes level timeout) release expiry) := State.modLink_congr happly
  refine congrArg Host.Outcome.next (takeRequest_acts h (Laws.BodyFits.setNotices l classes level timeout rfl rfl) ?_)
  simp only [setNoticesRequest, hset, State.modLink_tick, hcommute, hstored, State.modLink_link_self, LinkPort.noticeItems_leaveDone,
    LinkPort.underNotices_items]

end setNotices

section batchExpiry

variable {p : LinkPort} {now : Nat}

theorem LinkPort.expireBatch_due (h : p.batchDue now = true) : p.expireBatch now = { p with release := true, batchExpiry := none } :=
  if_pos h

theorem LinkPort.expireBatch_notDue (h : p.batchDue now = false) : p.expireBatch now = p := if_neg (Bool.eq_false_iff.mp h)

end batchExpiry

/-- Settles O51: SET NOTICES by its two ranges, and accepted by what the drop keeps and the release; the expiry by its being due. -/
theorem noticeSettingsAndBatch : Obligations.NoticeSettingsAndBatch := by
  intro l s
  refine ⟨fun classes level timeout htakes => ⟨fun hbad => ?refused, fun hclasses htimeout => ?accepted⟩, fun t ht hdue => ?due,
    fun hdue => next_modLink_eq_self (LinkPort.expireBatch_notDue hdue)⟩
  case refused => exact exec_setNotices_refused htakes (noticeSettingsOf_refused hbad)
  case accepted =>
    have hset := noticeSettingsOf_stored (level := level) hclasses htimeout
    refine ⟨fun hkept => ?empty, fun q qs hkept => ⟨fun hon => ?released, fun hoff hready => ?releases,
      fun hoff hlevel hearly => ?waits⟩⟩
    case empty => exact exec_setNotices_stores htakes hset (LinkPort.applyNotices_empty hkept)
    case released => exact exec_setNotices_stores htakes hset (LinkPort.applyNotices_released hkept hon)
    case releases => exact exec_setNotices_stores htakes hset (LinkPort.applyNotices_releases hkept hoff hready)
    case waits => exact exec_setNotices_stores htakes hset (LinkPort.applyNotices_waits hkept hoff hlevel hearly)
  case due => exact next_modLink_congr (LinkPort.expireBatch_due (((s.link l).batchDue_iff s.tick).mpr ⟨t, ht, hdue⟩))

end Sys2Proof.Machine

/-! PROOFS. Settings Store and start-up (chapter 10): the snapshot that SAVE takes, the write and its end, RESTART, the settings and the
values each block starts on, and the state after reset. -/

namespace Sys2Proof.Machine

set_option Elab.async false

open Sys2Proof

/-! ### The snapshot (R174) -/

section snapshot

variable (s : State)

/-- R158, R174: leaving DONE touches no setting. -/
theorem State.snapshot_leaveDone (l : LinkId) : (s.modLink l LinkPort.leaveDone).snapshot = s.snapshot := by
  have hdivisor : (s.link l).leaveDone.newestDivisor = (s.links.get l).newestDivisor := by
    rw [LinkPort.leaveDone_eq_match]
    rfl
  have hnotices : (s.link l).leaveDone.notices = (s.links.get l).notices := by
    rw [LinkPort.leaveDone_eq_match]
    rfl
  simp only [State.snapshot, State.modLink, Four.set_map, hdivisor, hnotices]
  rw [← Four.get_map LinkPort.newestDivisor, ← Four.get_map (fun p : LinkPort => p.notices), Four.set_get_self, Four.set_get_self]

theorem State.snapshot_input (i : LaneId) : s.snapshot.inputs.get i = (s.input i).settings := Eight.get_map _ _ i

/-- R174: an output lane is saved by its newest accepted configuration. -/
theorem State.snapshot_output {o : LaneId} {su : OutSetup} (h : (s.output o).newest = some su) : s.snapshot.outputs.get o = su.config := by
  have hsaved : s.snapshot.outputs.get o = (s.output o).savedConfig := Eight.get_map _ _ o
  rw [hsaved, OutLane.savedConfig, h]
  rfl

theorem State.snapshot_link (k : LinkId) :
    s.snapshot.divisors.get k = (s.link k).newestDivisor ∧ s.snapshot.notices.get k = (s.link k).notices :=
  ⟨Four.get_map _ _ k, Four.get_map _ _ k⟩

end snapshot

/-! ### SAVE and the write's end (R176, R177) -/

section save

variable {l : LinkId} {s : State}

/-- R176: a write in flight, or an end above the maximum, refuses SAVE. -/
theorem exec_save_busy (h : s.takes l (.save l) = true) (hbusy : s.store.write ≠ none ∨ Config.maxTick < s.tick + 28800) :
    exec (.save l) s = .next (s.answered l 0x21#8 (.no .busy)) := by
  refine congrArg Host.Outcome.next (takeRequest_acts h (Laws.BodyFits.save l rfl rfl) ?_)
  by_cases hwrite : s.store.write = none
  · have hidle : ¬ (s.modLink l LinkPort.leaveDone).store.write.isSome = true := by simp [hwrite]
    exact (if_neg hidle).trans (if_pos (hbusy.resolve_left (not_not_intro hwrite)))
  · exact if_pos (Option.isSome_iff_ne_none.mpr hwrite)

/-- R176: SAVE accepted begins a write. -/
theorem exec_save_begins (h : s.takes l (.save l) = true) (hidle : s.store.write = none) (hend : s.tick + 28800 ≤ Config.maxTick) :
    exec (.save l) s = .next ((s.beginWrite l).answered l 0x21#8
      (.ok (StoreState.incomplete.code :: tickChars s.tick ++ tickChars (s.tick + 28800)))) := by
  have hwrite : ¬ (s.modLink l LinkPort.leaveDone).store.write.isSome = true := by simp [hidle]
  have hbegin : (s.modLink l LinkPort.leaveDone).beginWrite l = (s.beginWrite l).modLink l LinkPort.leaveDone := by
    rw [State.beginWrite, State.snapshot_leaveDone]
    rfl
  refine congrArg Host.Outcome.next (takeRequest_acts h (Laws.BodyFits.save l rfl rfl) ?_)
  refine (if_neg hwrite).trans ((if_neg (Nat.not_lt.mpr hend)).trans ?_)
  rw [hbegin]
  rfl

/-- R177: a write that is due ends. -/
theorem exec_writeEnd_due {w : StoreWrite} (hw : s.store.write = some w) (hdue : w.endTick ≤ s.tick) :
    exec .writeEnd s = .next
      ((s.modStore (fun t => t.endWrite w)).post (.saveDone w.taken w.link .good s.store.fault)) := by
  have hwrite : s.writeDue = true := by simp only [State.writeDue, hw, hdue, decide_true]
  refine congrArg Host.Outcome.next ((if_pos hwrite).trans ?_)
  simp only [State.endWrite, hw]

theorem exec_writeEnd_notDue (h : s.writeDue = false) : exec .writeEnd s = .next s :=
  congrArg Host.Outcome.next (if_neg (Bool.eq_false_iff.mp h))

end save

/-! ### RESTART (R179) -/

section restart

variable {l : LinkId} {s : State}

/-- R179: RESTART changes nothing but its link, whatever it replies. -/
theorem exec_restart {r : Reply} (h : s.takes l (.restart l) = true)
    (hreply : restartRequest (s.modLink l LinkPort.leaveDone) = (s.modLink l LinkPort.leaveDone, r)) :
    exec (.restart l) s = .next (s.answered l 0x22#8 r) :=
  congrArg Host.Outcome.next (takeRequest_acts h (Laws.BodyFits.restart l rfl rfl) hreply)

theorem restartRequest_busy (hwrite : s.store.write ≠ none) : restartRequest s = (s, .no .busy) :=
  if_pos (Option.isSome_iff_ne_none.mpr hwrite)

theorem restartRequest_storeFault (hidle : s.store.write = none) (hstate : s.store.state ≠ .good) :
    restartRequest s = (s, .no .storeFault) := by
  simp [restartRequest, hidle, hstate]

theorem restartRequest_accepted (hidle : s.store.write = none) (hstate : s.store.state = .good) :
    restartRequest s = (s, .accepted [] .restart) := by
  simp [restartRequest, hidle, hstate]

/-- R179: an accepted RESTART waits for the characters ahead and the three of its response. -/
theorem State.answered_restartAfter :
    ((s.answered l 0x22#8 (.accepted [] .restart)).link l).restartAfter = some ((s.link l).charsAhead + 3) := by
  rw [State.answered_link, LinkPort.answer_eq, LinkPort.leaveDone_eq_match, Reply.frame_length]
  rfl

end restart

/-- Settles O52: SAVE and RESTART by the first check that fails, the write's end by its being due, the snapshot by its fields. -/
theorem saveWriteAndRestart : Obligations.SaveWriteAndRestart := by
  intro l s
  refine ⟨fun htakes => ⟨exec_save_busy htakes, exec_save_begins htakes⟩, fun w hw hdue => exec_writeEnd_due hw hdue,
    exec_writeEnd_notDue, fun htakes => ⟨fun hwrite => ?busy, fun hidle hstate => ?fault, fun hidle hstate => ?accepted⟩,
    rfl, rfl, rfl, rfl, rfl, rfl, rfl, s.snapshot_input, fun o su => s.snapshot_output, s.snapshot_link, rfl, rfl⟩
  case busy => exact exec_restart htakes (restartRequest_busy hwrite)
  case fault => exact exec_restart htakes (restartRequest_storeFault hidle hstate)
  case accepted => exact ⟨exec_restart htakes (restartRequest_accepted hidle hstate), State.answered_restartAfter⟩

/-! ### Start-up (R178) -/

section startUp

variable (s : State)

theorem State.startUp_input (i : LaneId) :
    s.startUp.input i = clearedInput (s.store.startSettings.inputs.get i)
      ((s.store.startSettings.inputs.get i).expectedUnder s.store.startSettings.house) := Eight.get_map _ _ i

theorem State.startUp_output (o : LaneId) :
    s.startUp.output o =
      blankOutput.accept (setupOf s.store.startSettings.house 0 (s.store.startSettings.outputs.get o)) 0 := Eight.get_map _ _ o

theorem State.startUp_link (k : LinkId) : s.startUp.link k =
    clearedLink (s.store.startSettings.divisors.get k) (s.store.startSettings.notices.get k) (s.link k).pause := by
  match k with
  | 0 | 1 | 2 | 3 => rfl

/-- R27, R40: the reference period that start-up expects is the one of the settings it has loaded. -/
theorem State.startUp_refPeriod : s.startUp.refPeriod = s.store.startSettings.refPeriod := by
  have hhc : s.startUp.hc = s.store.startSettings.startClock := rfl
  rw [State.refPeriod, hhc]
  cases hsource : s.store.startSettings.refSource with
  | off | refInput => simp [State.periodOf, Settings.refPeriod, Settings.startClock, hsource]
  | lane i => simp [State.periodOf, Settings.refPeriod, Settings.startClock, hsource, State.startUp_input, clearedInput]

end startUp

theorem gridAtOrAfter_zero (p : Nat) : gridAtOrAfter p 0 = 0 := by
  rw [gridAtOrAfter, ceilDiv]
  rcases p with _ | p
  · exact Nat.zero_mul _
  · simp

/-- R84: the first tick at or after 0 on a boundary grid is its origin within one period. -/
theorem boundaryAtOrAfter_zero (o p : Nat) : boundaryAtOrAfter o p 0 = o % p := by
  rw [boundaryAtOrAfter, Nat.zero_add, Nat.cast_zero, Int.sub_zero, ← Int.natCast_mod, Int.toNat_natCast]

section blankOutput

variable (house : Timeline) (c : OutConfig)

/-- R84, R97: a lane with nothing in force whose configuration has tick 0 as its effect boundary. -/
theorem blankOutput_accept_running (h : c ≠ .off) (hb : (setupOf house 0 c).effectBoundary 0 = 0) :
    blankOutput.accept (setupOf house 0 c) 0 = ⟨.running, some (setupOf house 0 c), none, some 0, 0, none, none, false⟩ :=
  (if_neg ((setupOf_config house 0 c).trans_ne h)).trans ((if_pos hb).trans (by rw [hb]))

theorem blankOutput_accept_waiting (h : c ≠ .off) (hb : (setupOf house 0 c).effectBoundary 0 ≠ 0) :
    blankOutput.accept (setupOf house 0 c) 0 =
      ⟨.waiting, none, some (setupOf house 0 c), some ((setupOf house 0 c).effectBoundary 0), 0, none, none, false⟩ :=
  (if_neg ((setupOf_config house 0 c).trans_ne h)).trans (if_neg hb)

end blankOutput

/-- R147: the contact at start-up shows a closed pin as HELD. -/
theorem ContactState.atStart_eq (c : ContactState) : c.atStart = if c = .opened then .opened else .held := by
  cases c <;> rfl

/-- Settles O53: each block at the values it starts on; an output lane by its configuration and, with a timeline of its own, by whether
tick 0 is a boundary of it. -/
theorem startUpLoadsSettings : Obligations.StartUpLoadsSettings := by
  intro s set house
  have hset : s.store.startSettings = set := rfl
  have hfault : (s.store.state == .incomplete) = decide (s.store.state = .incomplete) := rfl
  refine ⟨s.startUp, rfl, ?store, rfl, rfl, rfl, rfl, rfl, rfl, rfl, rfl, rfl, rfl, rfl, rfl, rfl, rfl, rfl, rfl, rfl, rfl, rfl,
    fun hsource => ?expected, fun hsource => if_pos hsource, s.startUp_input, fun o => ?output, s.su.contact.atStart_eq, rfl, rfl, rfl, rfl,
    rfl, rfl, rfl, rfl, s.startUp_link⟩
  case store => exact congrArg (fun b => ({ s.store with write := none, fault := b } : SettingsStore)) hfault
  case expected =>
    rw [State.startUp_refPeriod]
    exact if_neg hsource
  case output =>
    rw [State.startUp_output, hset]
    generalize set.outputs.get o = c
    cases c with
    | off => rfl
    | pulse rate drop placement duration =>
      exact blankOutput_accept_running house (.pulse rate drop placement duration) nofun (gridAtOrAfter_zero _)
    | wordclock sampleRate pull => exact blankOutput_accept_running house (.wordclock sampleRate pull) nofun rfl
    | timecode r d timeline user =>
      cases timeline with
      | follow =>
        exact blankOutput_accept_running house (.timecode r d .follow user) nofun
          ((boundaryAtOrAfter_zero 0 r.period).trans (Nat.zero_mod _))
      | own origin label =>
        have hboundary : (setupOf house 0 (.timecode r d (.own origin label) user)).effectBoundary 0 = origin % r.period :=
          boundaryAtOrAfter_zero origin r.period
        dsimp only
        split
        · exact blankOutput_accept_running house (.timecode r d (.own origin label) user) nofun (hboundary.trans ‹_›)
        · rw [← hboundary]
          exact blankOutput_accept_waiting house (.timecode r d (.own origin label) user) nofun (hboundary.trans_ne ‹_›)

/-! ### Reset -/

/-- R178: reset is the start-up of the part as reset leaves it: a BLANK store and the pins released. -/
theorem State.startUp_reset : State.reset.startUp = State.reset := rfl

/-- R24 to R26: reset stands at tick 0 with trim 0 and nothing stored. -/
theorem State.reset_clockInv : State.reset.ClockInv where
  tick := Nat.zero_le _
  full := nofun
  fine := (by decide : 0 < fineWrap)
  trim := ⟨by decide, by decide⟩
  image k h := absurd h.symm (Option.some_ne_none k)
  write w h := absurd h.symm (Option.some_ne_none w)

/-- Settles O60: reset is a start-up, and a start-up leaves the queues within their depths, the links sound and the table empty. -/
theorem resetMeetsInvariants : Obligations.ResetMeetsInvariants := by
  obtain ⟨htable, hapart, horder⟩ := State.sound_of_empty (t := State.reset) rfl
  exact ⟨State.reset_clockInv, State.startUp_reset ▸ State.reset.startUp_depthInv, State.startUp_reset ▸ State.reset.startUp_linksInv,
    htable, hapart, horder, State.startUp_reset⟩

end Sys2Proof.Machine

/-! PROOFS. DEFAULTS (R180): what the notice settings, the reference, the house timeline, the lanes and the divisors come to, block by
block, where no take rolls; and the response. -/

namespace Sys2Proof.Machine

set_option Elab.async false

open Sys2Proof

/-! ### A link under the factory notice settings (R169, R171, R172) -/

/-- R169, R171: factory notice settings, whose batch level of 1 releases every queue that is not empty. -/
structure LinkPort.Prompt (p : LinkPort) : Prop where
  notices : p.notices = factoryNotices
  release : p.release = decide (p.queue ≠ [])

/-- From `p` to `q` notices were handed over: the queue has them behind what stood there, and prompt release stays so. -/
structure LinkPort.Notified (p q : LinkPort) : Prop where
  divisor : q.divisor = p.divisor
  tx : q.tx = p.tx
  feeder : q.feeder = p.feeder
  queue : p.queue <+: q.queue
  prompt : p.Prompt → q.Prompt

section notified

variable {p q r : LinkPort}

/-- An update of other fields than these. -/
theorem LinkPort.Notified.of_eq (hdivisor : q.divisor = p.divisor := by rfl) (htx : q.tx = p.tx := by rfl)
    (hfeeder : q.feeder = p.feeder := by rfl) (hqueue : q.queue = p.queue := by rfl) (hnotices : q.notices = p.notices := by rfl)
    (hrelease : q.release = p.release := by rfl) : p.Notified q :=
  ⟨hdivisor, htx, hfeeder, hqueue ▸ ⟨[], List.append_nil _⟩, fun h => ⟨hnotices.trans h.notices, by rw [hrelease, hqueue, h.release]⟩⟩

theorem LinkPort.Notified.refl (p : LinkPort) : p.Notified p := .of_eq

theorem LinkPort.Notified.trans (h : p.Notified q) (k : q.Notified r) : p.Notified r where
  divisor := k.divisor.trans h.divisor
  tx := k.tx.trans h.tx
  feeder := k.feeder.trans h.feeder
  queue := h.queue.trans k.queue
  prompt := k.prompt ∘ h.prompt

/-- R166 to R169: a notice that enters a prompt queue releases it. -/
theorem LinkPort.Notified.offer (p : LinkPort) (n : Notice) (now : Nat) : p.Notified (p.offer n now) := by
  rcases p.offer_cases n now with ⟨-, heq⟩ | ⟨-, -, heq⟩ | ⟨-, -, heq⟩ <;> rw [heq]
  · exact refl p
  · refine ⟨rfl, rfl, rfl, ⟨_, rfl⟩, fun h => ⟨h.notices, ?_⟩⟩
    have hlevel : p.notices.level ≤ p.queue.length + 1 := by
      rw [h.notices]
      exact Nat.le_add_left 1 _
    simp [hlevel]
  · exact .of_eq

theorem LinkPort.Notified.charsAhead (h : p.Notified q) : q.charsAhead = p.charsAhead := by
  rw [LinkPort.charsAhead, h.tx, h.feeder, LinkPort.charsAhead]

/-- R165, R171: the factory settings subscribe every class. -/
theorem factoryNotices_subscribe (c : NoticeClass) : factoryNotices.classes.getLsbD c.bit = true := by cases c <;> rfl

theorem keepSubscribed_factory (qs : List QueuedNotice) : keepSubscribed factoryNotices.classes qs = qs :=
  List.filter_eq_self.mpr fun q _ => factoryNotices_subscribe q.notice.body.noticeClass

theorem LinkPort.feederAfterDrop_factory (p : LinkPort) : p.feederAfterDrop factoryNotices.classes = p.feeder := by
  unfold LinkPort.feederAfterDrop
  split
  · rw [if_pos (factoryNotices_subscribe _)]
    exact Eq.symm ‹_›
  · rfl

/-- R172: the factory settings drop no notice, and release whatever is queued. -/
theorem LinkPort.applyNotices_factory (p : LinkPort) (now : Nat) :
    ∃ expiry, p.applyNotices factoryNotices now =
      { p with notices := factoryNotices, release := decide (p.queue ≠ []), batchExpiry := expiry } := by
  have hunder (release : Bool) (expiry : Option Nat) : p.underNotices factoryNotices release expiry =
      { p with notices := factoryNotices, release := release, batchExpiry := expiry } := by
    rw [LinkPort.underNotices, keepSubscribed_factory, LinkPort.feederAfterDrop_factory]
  have hkept := keepSubscribed_factory p.queue
  by_cases hempty : p.queue = []
  · refine ⟨none, (LinkPort.applyNotices_empty (hkept.trans hempty)).trans ?_⟩
    rw [hunder, decide_eq_false (not_not_intro hempty)]
  · obtain ⟨n, ns, hqueue⟩ := List.exists_cons_of_ne_nil hempty
    rw [decide_eq_true hempty]
    cases hrelease : p.release with
    | true => exact ⟨_, (LinkPort.applyNotices_released (hkept.trans hqueue) hrelease).trans (hunder _ _)⟩
    | false =>
      have hlevel : factoryNotices.level ≤ (keepSubscribed factoryNotices.classes p.queue).length := by
        rw [hkept]
        exact List.length_pos_iff.mpr hempty
      exact ⟨_, (LinkPort.applyNotices_releases (hkept.trans hqueue) hrelease (.inl hlevel)).trans (hunder _ _)⟩

end notified

/-! ### What a block does to the lanes and the links alone -/

/-- From `s` to `t` only lanes change, and the links by the notices handed to them. -/
structure State.ChangesLanes (s t : State) : Prop where
  pending : t.pending = s.pending
  hc : t.hc = s.hc
  tu : t.tu = s.tu
  tt : t.tt = s.tt
  su : t.su = s.su
  store : t.store = s.store
  links : ∀ k, (s.link k).Notified (t.link k)

namespace State.ChangesLanes

variable {s t u : State} {i : LaneId}

theorem refl (s : State) : s.ChangesLanes s := ⟨rfl, rfl, rfl, rfl, rfl, rfl, fun _ => .refl _⟩

theorem trans (h : s.ChangesLanes t) (k : t.ChangesLanes u) : s.ChangesLanes u where
  pending := k.pending.trans h.pending
  hc := k.hc.trans h.hc
  tu := k.tu.trans h.tu
  tt := k.tt.trans h.tt
  su := k.su.trans h.su
  store := k.store.trans h.store
  links l := (h.links l).trans (k.links l)

protected theorem ite {c : Prop} [Decidable c] (h : s.ChangesLanes t) (k : s.ChangesLanes u) : s.ChangesLanes (if c then t else u) := by
  split
  · exact h
  · exact k

theorem modInput {f : InLane → InLane} : s.ChangesLanes (s.modInput i f) := ⟨rfl, rfl, rfl, rfl, rfl, rfl, fun _ => .refl _⟩

theorem modOutput {f : OutLane → OutLane} : s.ChangesLanes (s.modOutput i f) := ⟨rfl, rfl, rfl, rfl, rfl, rfl, fun _ => .refl _⟩

theorem post {b : NoticeBody} : s.ChangesLanes (s.post b) :=
  ⟨rfl, rfl, rfl, rfl, rfl, rfl, fun k => (State.post_link s b k).symm ▸ .offer _ _ _⟩

theorem markChanged : s.ChangesLanes (s.markChanged i) :=
  ⟨rfl, rfl, rfl, rfl, rfl, rfl, fun k => (State.markChanged_link s i k).symm ▸ .of_eq⟩

theorem reportReference {old : HouseClock} : s.ChangesLanes (s.reportReference old) := .ite (refl s) post

/-- R32, R38: the reference settings are stored before the change is reported. -/
theorem applyReference (src : RefSource) (r : RateCode) (lp : LoopMode) (field : Option Int) :
    ({ s with hc := s.referenceSet src r lp field } : State).ChangesLanes (s.applyReference src r lp field) :=
  s.applyReference_eq src r lp field ▸ reportReference

/-- R47: a house change leaves the Timeline Unit with the timeline installed and the one before pushed. -/
theorem applyHouse (s : State) (tl : Timeline) (cause : HouseCause) (lane : Option LaneId) :
    ({ s with tu := { s.tu with house := tl, history := pushHistory s.tu.house s.tu.history } } : State).ChangesLanes
      (s.applyHouse tl cause lane) :=
  ⟨rfl, rfl, rfl, rfl, rfl, rfl, fun k => (State.installHouse_link _ tl cause lane k).symm ▸ .offer _ _ _⟩

/-- A change of the Timeline Unit before the lanes change is one after. -/
theorem withTu (h : s.ChangesLanes t) (v : TimelineUnit) : ({ s with tu := v } : State).ChangesLanes { t with tu := v } :=
  ⟨h.pending, h.hc, rfl, h.tt, h.su, h.store, h.links⟩

theorem rollingTakeOf (h : s.ChangesLanes t) (j : LaneId) : t.rollingTakeOf j = s.rollingTakeOf j := by
  rw [State.rollingTakeOf, h.tt, State.rollingTakeOf]

end State.ChangesLanes

/-! ### Every lane in turn (R180) -/

/-- An act on one lane after another, each keeping `P` and every other lane, brings every lane of the list where the act brings its own. -/
theorem foldl_lanes {α : Type} {P : State → Prop} {act : State → LaneId → State} {read : State → LaneId → α} {a : α}
    (hkeeps : ∀ u i, P u → P (act u i)) (hself : ∀ u i, read (act u i) i = a)
    (hother : ∀ u i j, P u → j ≠ i → read (act u i) j = read u j) {s : State} (hs : P s) (is : List LaneId) :
    P (is.foldl act s) ∧ ∀ j, j ∈ is ∨ read s j = a → read (is.foldl act s) j = a := by
  induction is generalizing s with
  | nil => exact ⟨hs, fun j hj => hj.resolve_left List.not_mem_nil⟩
  | cons i is ih =>
    obtain ⟨hrest, hbrought⟩ := ih (hkeeps s i hs)
    refine ⟨hrest, fun j hj => hbrought j ?_⟩
    by_cases hji : j = i
    · subst hji
      exact .inr (hself s j)
    · exact hj.imp (List.mem_of_ne_of_mem hji) (hother s i j hs hji).trans

theorem foldl_allLanes {α : Type} {P : State → Prop} {act : State → LaneId → State} {read : State → LaneId → α} {a : α}
    (hkeeps : ∀ u i, P u → P (act u i)) (hself : ∀ u i, read (act u i) i = a)
    (hother : ∀ u i j, P u → j ≠ i → read (act u i) j = read u j) {s : State} (hs : P s) :
    P (allLanes.foldl act s) ∧ ∀ j, read (allLanes.foldl act s) j = a := by
  obtain ⟨hkept, hbrought⟩ := foldl_lanes hkeeps hself hother hs allLanes
  exact ⟨hkept, fun j => hbrought j (.inl ((by decide : ∀ i : LaneId, i ∈ allLanes) j))⟩

/-! ### The factory settings on the input lanes (R58, R69) -/

/-- R105: where the rolling count is 0, no lane is in a ROLLING take. -/
theorem State.TableInv.rollingTakeOf_none {s : State} (h : s.TableInv) (hcount : s.tt.rollingCount = 0) (i : LaneId) :
    s.rollingTakeOf i = none := by
  cases hrolls : s.rollingTakeOf i with
  | none => rfl
  | some t =>
    obtain ⟨ht, hstate, -⟩ := State.rollingTakeOf_some hrolls
    exact absurd hcount (h.rollingCount_pos ht hstate).ne'

/-- From `s` to `t` no input lane changes but lane `i`, and of the other blocks only the links, by notices. -/
structure State.ChangesLane (s t : State) (i : LaneId) : Prop extends s.ChangesLanes t where
  other : ∀ j, j ≠ i → t.input j = s.input j

namespace State.ChangesLane

variable {s t u : State} {i : LaneId}

theorem of_inputs (h : s.ChangesLanes t) (hinputs : t.inputs = s.inputs) : s.ChangesLane t i :=
  ⟨h, fun j _ => congrArg (Eight.get · j) hinputs⟩

theorem trans (h : s.ChangesLane t i) (k : t.ChangesLane u i) : s.ChangesLane u i :=
  ⟨h.toChangesLanes.trans k.toChangesLanes, fun j hj => (k.other j hj).trans (h.other j hj)⟩

theorem modInput {f : InLane → InLane} : s.ChangesLane (s.modInput i f) i := ⟨.modInput, fun _ hj => s.modInput_input_of_ne i f hj⟩

/-- R75, R79: a notice of the lane with its changed-lane bit. -/
theorem report {b : NoticeBody} : s.ChangesLane ((s.post b).markChanged i) i := of_inputs (.trans .post .markChanged) rfl

/-- R117: a DROPOUT of a lane in no ROLLING take reaches the links alone. -/
theorem dropout (hroll : s.rollingTakeOf i = none) : s.ChangesLane (s.dropout i) i := by
  have htake (stamp : Nat) : s.takeDropout i stamp = s := by simp only [State.takeDropout, hroll]
  rw [State.dropout_eq, htake]
  split
  · exact report
  · exact of_inputs (.refl s) rfl

/-- R34, R69: a lane in no ROLLING take that is not the reference source goes SILENT by itself. -/
theorem goSilent (hroll : s.rollingTakeOf i = none) (hsource : s.hc.source ≠ .lane i) {cause : LaneCause} :
    s.ChangesLane (s.goSilent i cause) i := by
  have hreported (f : InLane → InLane) (prev : Tracking) :
      s.ChangesLane (((s.dropout i).modInput i f).reportLane i prev .silent cause none) i := ((dropout hroll).trans modInput).trans report
  unfold State.goSilent
  rw [State.laneSilent, if_neg fun h => hsource ((hreported _ _).hc ▸ h.1)]
  exact hreported _ _

theorem applyInput (hroll : s.rollingTakeOf i = none) (hsource : s.hc.source ≠ .lane i) (set : InSettings) :
    s.ChangesLane (s.applyInput i set) i := by
  unfold State.applyInput
  dsimp only
  split
  · exact modInput
  · exact (goSilent hroll hsource).trans modInput

end State.ChangesLane

/-- R58: the factory kind is OFF, which expects no timeline of any house. -/
theorem State.applyInput_factory (s : State) (i : LaneId) : (s.applyInput i factoryInput).input i = clearedInput factoryInput none :=
  State.modInput_input_self _ _ _

/-- R58, R180: where no take rolls and no lane is the reference source, the factory settings clear each input lane by itself. -/
theorem State.defaultInputs_clears {s : State} (hroll : ∀ i, s.rollingTakeOf i = none) (hsource : s.hc.source = .off) :
    s.ChangesLanes s.defaultInputs ∧ ∀ i, s.defaultInputs.input i = clearedInput factoryInput none := by
  have hlane (u : State) (i : LaneId) (h : s.ChangesLanes u) : u.ChangesLane (u.applyInput i factoryInput) i :=
    .applyInput ((h.rollingTakeOf i).trans (hroll i)) (by rw [h.hc, hsource]; nofun) factoryInput
  exact foldl_allLanes (P := s.ChangesLanes) (read := State.input) (fun u i h => h.trans (hlane u i h).toChangesLanes)
    State.applyInput_factory (fun u i j h => (hlane u i h).other j) (.refl s)

/-! ### Output lanes and divisors (R97, R149) -/

/-- R97, R180: kind OFF on each output lane, and the input lanes as they were. -/
theorem State.defaultOutputs_off (s : State) :
    (s.ChangesLanes s.defaultOutputs ∧ s.defaultOutputs.inputs = s.inputs) ∧
    ∀ o, s.defaultOutputs.output o = ⟨.off, some ⟨.off, none, 0⟩, none, none, 0, none, none, false⟩ :=
  foldl_allLanes (P := fun u => s.ChangesLanes u ∧ u.inputs = s.inputs) (read := State.output)
    (fun _ _ ⟨hchanges, hinputs⟩ => ⟨hchanges.trans .modOutput, hinputs⟩) (fun u o => u.modOutput_output_self o _)
    (fun u o _ _ hj => u.modOutput_output_of_ne o _ hj) ⟨.refl s, rfl⟩

/-- R149: the divisor of every link but the requesting one is in force at once. -/
theorem State.defaultDivisors_eq (s : State) (l : LinkId) : s.defaultDivisors l = { s with links := (s.defaultDivisors l).links } := by
  match l with
  | 0 | 1 | 2 | 3 => rfl

theorem State.defaultDivisors_link (s : State) (l k : LinkId) :
    (s.defaultDivisors l).link k = if k = l then s.link k else (s.link k).installDivisor 6 := by
  match l with
  | 0 | 1 | 2 | 3 =>
    match k with
    | 0 | 1 | 2 | 3 => rfl

/-! ### The Slate Unit (R134, R143) -/

/-- R143: a hold stands where it began on the factory display source and hold time. -/
theorem State.defaultSlate_su (s : State) :
    ((s.acceptFlash factoryFlash).acceptPanel factoryPanel).su =
      { s.su with
        flash := factoryFlash
        panel := factoryPanel
        hold := if s.su.panel.display = .house ∧ s.su.panel.hold = 1440000 then s.su.hold else none } := by
  have hhold : (if factoryPanel.display = s.su.panel.display ∧ factoryPanel.hold = s.su.panel.hold then s.su.hold else none) =
      if s.su.panel.display = .house ∧ s.su.panel.hold = 1440000 then s.su.hold else none :=
    if_congr (and_congr eq_comm eq_comm) rfl rfl
  rw [← hhold]
  rfl

/-! ### The house timeline (R55) -/

/-- R55: DEFAULTS at tick `now` changes the house timeline: it is not at F24 without drop, and the origin tick is in range. -/
def TimelineUnit.DefaultsChange (u : TimelineUnit) (now : Nat) : Prop :=
  (u.house.rate ≠ .f24 ∨ u.house.drop = true) ∧ gridAtOrAfter 30000 now ≤ Config.maxTick

/-- R55: `v` is what DEFAULTS at tick `now` leaves of the Timeline Unit `u`, with the origin tick of the change it applied. -/
structure TimelineUnit.Defaulted (u : TimelineUnit) (now : Nat) (v : TimelineUnit) (origin : Option Nat) : Prop where
  autoJam : v.autoJam = none
  change : v.change = none
  stands : ¬ u.DefaultsChange now → v.house = u.house ∧ v.history = u.history ∧ origin = none
  changes : u.DefaultsChange now → v.house = ⟨.f24, false, gridAtOrAfter 30000 now, ⟨0, 0, 0, 0⟩⟩ ∧
    v.history = (u.house :: u.history).take 3 ∧ origin = some (gridAtOrAfter 30000 now)

/-- R55: neither an auto-jam lane nor a held change. -/
def State.houseReleased (s : State) : State := s.modTu (fun t => { t with autoJam := none, change := none })

section defaultHouse

variable {s : State}

theorem State.defaultHouse_stands (h : ¬ s.tu.DefaultsChange s.tick) :
    s.defaultHouse = (s.houseReleased, none) := by
  by_cases hf24 : s.tu.house.rate = .f24 ∧ s.tu.house.drop = false
  · exact if_pos hf24
  · have habove : Config.maxTick < gridAtOrAfter 30000 s.tick := by
      refine Nat.not_le.mp fun hwithin => h ⟨?_, hwithin⟩
      rwa [not_and_or, Bool.not_eq_false] at hf24
    exact (if_neg hf24).trans (if_pos habove)

theorem State.defaultHouse_changes (h : s.tu.DefaultsChange s.tick) (hcount : s.tt.rollingCount = 0) :
    s.defaultHouse = (s.houseReleased.applyHouse ⟨.f24, false, gridAtOrAfter 30000 s.tick, ⟨0, 0, 0, 0⟩⟩ .set none,
      some (gridAtOrAfter 30000 s.tick)) := by
  obtain ⟨hrate, hwithin⟩ := h
  have hother : ¬ (s.tu.house.rate = .f24 ∧ s.tu.house.drop = false) := by rwa [not_and_or, Bool.not_eq_false]
  have happlied : s.houseReleased.setHouse ⟨.f24, false, gridAtOrAfter 30000 s.tick, ⟨0, 0, 0, 0⟩⟩ true =
      (s.houseReleased.applyHouse ⟨.f24, false, gridAtOrAfter 30000 s.tick, ⟨0, 0, 0, 0⟩⟩ .set none, .applied) :=
    State.setHouse_applied (.inl rfl) hcount
  refine (if_neg hother).trans ((if_neg (Nat.not_lt.mpr hwithin)).trans ?_)
  exact congrArg (fun done : State × HouseOutcome => (done.1, some (gridAtOrAfter 30000 s.tick))) happlied

/-- R55: DEFAULTS on the Timeline Unit, and what its house change does to the lanes and the links. -/
theorem State.defaultHouse_defaulted (hcount : s.tt.rollingCount = 0) :
    s.tu.Defaulted s.tick s.defaultHouse.1.tu s.defaultHouse.2 ∧
    ({ s with tu := s.defaultHouse.1.tu } : State).ChangesLanes s.defaultHouse.1 := by
  by_cases hchange : s.tu.DefaultsChange s.tick
  · rw [State.defaultHouse_changes hchange hcount]
    exact ⟨⟨rfl, rfl, fun hno => absurd hchange hno, fun _ => ⟨rfl, rfl, rfl⟩⟩, .applyHouse s.houseReleased _ _ _⟩
  · rw [State.defaultHouse_stands hchange]
    exact ⟨⟨rfl, rfl, fun _ => ⟨rfl, rfl, rfl⟩, fun hyes => absurd hyes hchange⟩, .refl _⟩

end defaultHouse

/-! ### All blocks (R180) -/

/-- R180: `done` is what DEFAULTS on link `l` leaves of `s`, block by block, with the origin tick of the house change it applied. -/
structure State.Defaulted (s : State) (l : LinkId) (done : State × Option Nat) : Prop where
  pending : done.1.pending = s.pending
  tt : done.1.tt = s.tt
  store : done.1.store = s.store
  hc : done.1.hc = s.referenceSet .off .f24 .track (some 0)
  tu : s.tu.Defaulted s.tick done.1.tu done.2
  su : done.1.su = { s.su with
    flash := factoryFlash
    panel := factoryPanel
    hold := if s.su.panel.display = .house ∧ s.su.panel.hold = 1440000 then s.su.hold else none }
  input : ∀ i, done.1.input i = clearedInput factoryInput none
  output : ∀ o, done.1.output o = ⟨.off, some ⟨.off, none, 0⟩, none, none, 0, none, none, false⟩
  links : ∀ k, ∃ q, ((s.link k).applyNotices factoryNotices s.tick).Notified q ∧
    done.1.link k = if k = l then q else q.installDivisor 6

/-- R180: the blocks in the rule's order, where no take rolls. -/
theorem State.loadDefaults_defaulted {s : State} (hcount : s.tt.rollingCount = 0) (hroll : ∀ i, s.rollingTakeOf i = none) (l : LinkId) :
    s.Defaulted l (s.loadDefaults l) := by
  have href := State.ChangesLanes.applyReference (s := s.defaultNotices) .off .f24 .track (some 0)
  have hdone : s.loadDefaults l =
      (((((s.defaultNotices.applyReference .off .f24 .track (some 0)).defaultHouse.1.defaultInputs.defaultOutputs).acceptFlash
        factoryFlash).acceptPanel factoryPanel).defaultDivisors l,
        (s.defaultNotices.applyReference .off .f24 .track (some 0)).defaultHouse.2) := rfl
  rw [hdone]
  generalize s.defaultNotices.applyReference .off .f24 .track (some 0) = x at href
  obtain ⟨htu, hhouse⟩ := State.defaultHouse_defaulted (s := x) ((congrArg TakeTable.rollingCount href.tt).trans hcount)
  have hmoved := (href.withTu x.defaultHouse.1.tu).trans hhouse
  obtain ⟨hinputs, hcleared⟩ := State.defaultInputs_clears (fun i => (hmoved.rollingTakeOf i).trans (hroll i))
    (congrArg HouseClock.source hmoved.hc)
  obtain ⟨⟨houtputs, hkept⟩, hoff⟩ := x.defaultHouse.1.defaultInputs.defaultOutputs_off
  have hall := (hmoved.trans hinputs).trans houtputs
  generalize x.defaultHouse.1.defaultInputs.defaultOutputs = y at hall hkept hoff
  rw [State.defaultDivisors_eq]
  refine ⟨hall.pending, hall.tt, hall.store, hall.hc, ?tu, ?su, fun i => ?input, hoff, fun k => ?links⟩
  case tu =>
    have hbefore : x.tu = s.tu := href.tu
    have htick : x.tick = s.tick := (congrArg HouseClock.tick href.hc).trans rfl
    rw [hbefore, htick] at htu
    exact hall.tu.symm ▸ htu
  case su =>
    have hsu : y.su = s.su := hall.su
    rw [← hsu]
    exact y.defaultSlate_su
  case input => exact (congrArg (Eight.get · i) hkept).trans (hcleared i)
  case links =>
    have hnotices : s.defaultNotices.link k = (s.link k).applyNotices factoryNotices s.tick := Four.get_map _ _ k
    exact ⟨y.link k, hnotices ▸ hall.links k, State.defaultDivisors_link _ l k⟩

/-! ### DEFAULTS taken and answered (R149, R158, R180) -/

/-- R180: the response of DEFAULTS: whether the house timeline changed, and the origin tick. -/
def defaultsReply (origin : Option Nat) : Reply := .accepted (flagChar origin.isSome :: presentOr 6 tickChars origin) (.divisor 6)

theorem defaultsReply_frame_length (origin : Option Nat) : ((defaultsReply origin).frame 0x23#8).length = 11 := by
  simp only [defaultsReply, Reply.frame_length, List.length_cons, presentOr_length tickChars_length]

section answered

variable {s : State} {l : LinkId}

/-- R180: while a take rolls DEFAULTS is refused. -/
theorem exec_defaults_rolling (h : s.takes l (.defaults l) = true) (hcount : 0 < s.tt.rollingCount) :
    exec (.defaults l) s = .next (s.answered l 0x23#8 (.no .rolling)) :=
  congrArg Host.Outcome.next (takeRequest_acts h (Laws.BodyFits.defaults l rfl rfl) (if_pos hcount))

/-- The state in which link `l` holds the answer to what DEFAULTS has `done`. -/
def defaultsAnswered (l : LinkId) (done : State × Option Nat) : State :=
  done.1.modLink l (fun p => p.answer 0x23#8 (defaultsReply done.2))

theorem exec_defaults_accepted (h : s.takes l (.defaults l) = true) (hcount : s.tt.rollingCount = 0) :
    exec (.defaults l) s = .next (defaultsAnswered l ((s.modLink l LinkPort.leaveDone).loadDefaults l)) := by
  have hact : defaultsRequest l (s.modLink l LinkPort.leaveDone) =
      (((s.modLink l LinkPort.leaveDone).loadDefaults l).1, defaultsReply ((s.modLink l LinkPort.leaveDone).loadDefaults l).2) :=
    if_neg (Nat.not_lt.mpr hcount.le)
  refine congrArg Host.Outcome.next ((takeRequest_taken h (Laws.BodyFits.defaults l rfl rfl)).trans ?_)
  rw [hact]
  rfl

/-- R158: leaving DONE on one link changes nothing of any link but an assembler. -/
theorem State.leaveDone_link (s : State) (l k : LinkId) :
    ∃ a, (s.modLink l LinkPort.leaveDone).link k = { s.link k with assembler := a } := by
  by_cases hk : k = l
  · subst hk
    exact ⟨_, (State.modLink_link_self _ _ _).trans (LinkPort.leaveDone_eq_match _)⟩
  · exact ⟨_, State.modLink_link_of_ne _ _ _ hk⟩

variable {done : State × Option Nat} (hdone : (s.modLink l LinkPort.leaveDone).Defaulted l done)
include hdone

/-- R180: each link before DEFAULTS' response: prompt, what was queued ahead of what DEFAULTS handed it, its divisor as it was; a link
but the requesting one then takes the factory divisor. -/
theorem State.Defaulted.link (k : LinkId) :
    ∃ q, done.1.link k = (if k = l then q else q.installDivisor 6) ∧ q.Prompt ∧ (s.link k).queue <+: q.queue ∧
      q.divisor = (s.link k).divisor ∧ q.charsAhead = (s.link k).charsAhead := by
  obtain ⟨a, ha⟩ := s.leaveDone_link l k
  obtain ⟨q, hnotified, hq⟩ := hdone.links k
  obtain ⟨expiry, hfactory⟩ := LinkPort.applyNotices_factory { s.link k with assembler := a } (s.modLink l LinkPort.leaveDone).tick
  rw [ha, hfactory] at hnotified
  exact ⟨q, hq, hnotified.prompt ⟨rfl, rfl⟩, hnotified.queue, hnotified.divisor, hnotified.charsAhead⟩

/-- R149, R180: the requesting link holds the response, its divisor pending behind what is ahead and the response's 11 characters. -/
theorem State.Defaulted.answered_self :
    ((defaultsAnswered l done).link l).divisor = (s.link l).divisor ∧
    ((defaultsAnswered l done).link l).pendingDivisor = some ⟨6, (s.link l).charsAhead + 11⟩ ∧
    ((defaultsAnswered l done).link l).response = some ⟨(defaultsReply done.2).frame 0x23#8, 0, none⟩ := by
  obtain ⟨q, hq, -, -, hdivisor, hahead⟩ := hdone.link l
  rw [defaultsAnswered, State.modLink_link_self, hq, if_pos rfl, LinkPort.answer_eq, defaultsReply_frame_length]
  exact ⟨hdivisor, by rw [← hahead]; rfl, rfl⟩

theorem State.Defaulted.answered_other {k : LinkId} (hk : k ≠ l) :
    ((defaultsAnswered l done).link k).divisor = 6 ∧ ((defaultsAnswered l done).link k).pendingDivisor = none := by
  obtain ⟨q, hq, -⟩ := hdone.link k
  rw [defaultsAnswered, State.modLink_link_of_ne _ _ _ hk, hq, if_neg hk]
  exact ⟨rfl, rfl⟩

/-- R149, R180: neither the response nor the divisors have a part in the notice queues. -/
theorem State.Defaulted.answered_prompt (k : LinkId) :
    ((defaultsAnswered l done).link k).Prompt ∧ (s.link k).queue <+: ((defaultsAnswered l done).link k).queue := by
  obtain ⟨q, hq, ⟨hnotices, hrelease⟩, hqueue, -⟩ := hdone.link k
  by_cases hk : k = l
  · subst hk
    rw [defaultsAnswered, State.modLink_link_self, hq, if_pos rfl, LinkPort.answer_eq]
    exact ⟨⟨hnotices, hrelease⟩, hqueue⟩
  · rw [defaultsAnswered, State.modLink_link_of_ne _ _ _ hk, hq, if_neg hk]
    exact ⟨⟨hnotices, hrelease⟩, hqueue⟩

end answered

/-- R169: a sound link whose release tells its queue has no batch expiry. -/
theorem LinkPort.Prompt.batchExpiry {p : LinkPort} (h : p.Prompt) (hsound : p.Sound) : p.batchExpiry = none := by
  obtain ⟨hon, hoff, -⟩ := hsound.batch
  by_cases hqueue : p.queue = []
  · have hexpiry := hoff (h.release.trans (decide_eq_false (not_not_intro hqueue)))
    rwa [hqueue] at hexpiry
  · obtain ⟨-, hexpiry⟩ := hon (h.release.trans (decide_eq_true hqueue))
    exact hexpiry

/-- Settles O54: DEFAULTS by the rolling count; accepted, block by block as `State.Defaulted` has it, and the links with the answer. -/
theorem defaultsLoadsFactorySettings : Obligations.DefaultsLoadsFactorySettings := by
  intro l s htable htakes
  refine ⟨exec_defaults_rolling htakes, fun hcount => ?_⟩
  have hexec := exec_defaults_accepted htakes hcount
  have hdone := State.loadDefaults_defaulted (s := s.modLink l LinkPort.leaveDone) hcount (htable.rollingTakeOf_none hcount) l
  generalize (s.modLink l LinkPort.leaveDone).loadDefaults l = done at hexec hdone
  obtain ⟨hdivisor, hpending, hresponse⟩ := hdone.answered_self
  have hprompt := hdone.answered_prompt
  have hslate {α : Type} (f : SlateUnit → α) := congrArg f hdone.su
  refine ⟨defaultsAnswered l done, hexec, fun k => ⟨(hprompt k).1.notices, hdone.answered_other⟩, hdivisor, hpending,
    fun hchange => ?changed, fun hstands => ?stood, fun k => ⟨(hprompt k).2, (hprompt k).1.release⟩,
    fun hlinks k => (hprompt k).1.batchExpiry (exec_linksInv hlinks hexec k), hslate SlateUnit.hold, hdone.hc, hdone.tu.autoJam,
    hdone.tu.change, fun hstands => ?house, fun hchange => ?newHouse, hdone.input, hdone.output, hslate SlateUnit.flash,
    hslate SlateUnit.panel, hslate SlateUnit.lockout, hslate SlateUnit.ring, hslate SlateUnit.pointer, hslate SlateUnit.burst,
    hslate SlateUnit.contact, hdone.tt, hdone.store, hdone.pending⟩
  case changed =>
    obtain ⟨-, -, horigin⟩ := hdone.tu.changes hchange
    rw [hresponse, horigin]
    rfl
  case stood =>
    obtain ⟨-, -, horigin⟩ := hdone.tu.stands hstands
    rw [hresponse, horigin]
    rfl
  case house =>
    obtain ⟨hhouse, hhistory, -⟩ := hdone.tu.stands hstands
    exact ⟨hhouse, hhistory⟩
  case newHouse =>
    obtain ⟨hhouse, hhistory, -⟩ := hdone.tu.changes hchange
    exact ⟨hhouse, hhistory⟩

end Sys2Proof.Machine

/-! PROOFS. Formats of the line (chapter 11): where the characters of a request stand in its body (11.4, 11.5), so that its frame reads back
as the request (R182), and the fields of a 72-bit frame word (11.1, R181). -/

namespace Sys2Proof

open Sys2Proof.Machine

/-! ### Positions in a body (11.4, 11.5) -/

@[simp] theorem charAt_cons_zero (c : Byte) (cs : List Byte) : charAt (c :: cs) 0 = c := rfl

@[simp] theorem charAt_cons_succ (c : Byte) (cs : List Byte) (k : Nat) : charAt (c :: cs) (k + 1) = charAt cs k := rfl

@[simp] theorem charAt_append_right {as : List Byte} {k : Nat} (h : as.length ≤ k) (bs : List Byte) :
    charAt (as ++ bs) k = charAt bs (k - as.length) := List.getD_append_right _ _ _ _ h

@[simp] theorem slice_cons_succ (c : Byte) (cs : List Byte) (k n : Nat) : slice (c :: cs) (k + 1) n = slice cs k n := rfl

@[simp] theorem slice_append_right {as : List Byte} {k : Nat} (h : as.length ≤ k) (bs : List Byte) (n : Nat) :
    slice (as ++ bs) k n = slice bs (k - as.length) n := by
  rw [slice, List.drop_append, List.drop_of_length_le h, List.nil_append, slice]

@[simp] theorem slice_append_left {as : List Byte} {n : Nat} (h : as.length = n) (bs : List Byte) : slice (as ++ bs) 0 n = as :=
  List.take_left' h

@[simp] theorem slice_all {as : List Byte} {n : Nat} (h : as.length = n) : slice as 0 n = as := List.take_of_length_le h.le

/-! ### Numbers in a body (11.4) -/

/-- The characters of a word spell it, where they hold exactly its bits. -/
theorem ofNat_natOf_bytesOf {w n : Nat} (x : BitVec w) (hw : 256 ^ n = 2 ^ w) : BitVec.ofNat w (natOf (bytesOf n x.toNat)) = x := by
  rw [natOf_bytesOf, hw, Nat.mod_eq_of_lt x.isLt, BitVec.ofNat_toNat, BitVec.setWidth_eq]

@[simp] theorem ofNat_natOf_bytesOf_two (x : BitVec 16) : BitVec.ofNat 16 (natOf (bytesOf 2 x.toNat)) = x :=
  ofNat_natOf_bytesOf x (by decide)

@[simp] theorem ofNat_natOf_bytesOf_three (x : BitVec 24) : BitVec.ofNat 24 (natOf (bytesOf 3 x.toNat)) = x :=
  ofNat_natOf_bytesOf x (by decide)

@[simp] theorem ofNat_natOf_bytesOf_six (x : BitVec 48) : BitVec.ofNat 48 (natOf (bytesOf 6 x.toNat)) = x :=
  ofNat_natOf_bytesOf x (by decide)

/-! ### Fields of a body (11.4, 11.5) -/

@[simp] theorem LabelField.chars_length (f : LabelField) : f.chars.length = 5 := by simp [LabelField.chars]

@[simp] theorem labelAtPos_cons_succ (c : Byte) (cs : List Byte) (k : Nat) : labelAtPos (c :: cs) (k + 1) = labelAtPos cs k := by
  simp [labelAtPos, Nat.add_right_comm k 1]

@[simp] theorem labelAtPos_append_right {as : List Byte} {k : Nat} (h : as.length ≤ k) (bs : List Byte) :
    labelAtPos (as ++ bs) k = labelAtPos bs (k - as.length) := by
  simp [labelAtPos, h, Nat.le_add_right_of_le, Nat.sub_add_comm]

@[simp] theorem labelAtPos_chars (f : LabelField) (bs : List Byte) : labelAtPos (f.chars ++ bs) 0 = f := rfl

@[simp] theorem takeIdOf_bytesOf (x : BitVec 16) : takeIdOf (bytesOf 2 x.toNat) = x := by simp [takeIdOf, numberAt]

@[simp] theorem takeIdOf_bytesOf_append (x : BitVec 16) (bs : List Byte) : takeIdOf (bytesOf 2 x.toNat ++ bs) = x := by
  simp [takeIdOf, numberAt]

/-- 11.5: the settings characters after the lane and kind of a SET OUTPUT body give the settings back: its length tells the form. -/
theorem outputFieldsOf_chars (n k : Byte) (f : OutputFields) : outputFieldsOf (n :: k :: f.chars) = f := by
  cases f with
  | bare => rfl
  | wordclock s p => rfl
  | pulse form r d pl du => simp [outputFieldsOf, OutputFields.chars, numberAt]
  | timecode r tl o lab u v => simp [outputFieldsOf, OutputFields.chars, numberAt]

/-! ### Frames that read back (R182) -/

/-- The frame of the request, received on link `l`, reads back as it. -/
def Instr.ReadsBack (l : LinkId) (c : Instr) : Prop := decodeRequest l (requestFrame c).1 (requestFrame c).2 = some c

/-- R182: a body that holds all its settings is of an allowed length, and so read. -/
theorem setOutput_readsBack (l : LinkId) (n k : Byte) (f : OutputFields) : (Instr.setOutput l n k f).ReadsBack l := by
  rcases Laws.BodyFits.outputFields_length f with h | h | h | h <;>
    simp [Instr.ReadsBack, requestFrame, decodeRequest, allowedLengths, outputFieldsOf_chars, h]

theorem arm_readsBack (l : LinkId) {scene shot slots : List Byte} (number : BitVec 16) (flags count : Byte)
    (hscene : scene.length = 8) (hshot : shot.length = 4) (hslots : slots.length = 8) :
    (Instr.arm l scene shot number flags count slots).ReadsBack l := by
  simp [Instr.ReadsBack, requestFrame, decodeRequest, allowedLengths, numberAt, hscene, hshot, hslots]

/-- 11.5: the length of a CONVERT body tells whether a source B stands in it. -/
theorem convert_readsBack (l : LinkId) (direction : Byte) {a : SourceField} (value : BitVec 48) {b : Option SourceField}
    (ha : a.wellFormed = true) (hb : b.all SourceField.wellFormed = true) : (Instr.convert l direction a value b).ReadsBack l := by
  have harest : a.rest.length = 12 := by simpa [SourceField.wellFormed] using ha
  cases b with
  | none => simp [Instr.ReadsBack, requestFrame, decodeRequest, allowedLengths, numberAt, SourceField.chars, harest]
  | some b =>
    have hbrest : b.rest.length = 12 := by simpa [SourceField.wellFormed] using hb
    simp [Instr.ReadsBack, requestFrame, decodeRequest, allowedLengths, numberAt, SourceField.chars, harest, hbrest]

/-- Settles O7: by the form of the body: characters only, numbers among them, or a length that varies; an event has no link. -/
theorem requestFrameRoundTrip : Obligations.RequestFrameRoundTrip := by
  intro c l hwf hlink
  cases c with
  | status | readClock | unjam | readReference | clap | readPanel | save | restart | defaults | jam | setAutojam | readInput | capture
  | peek | readOutput | listTakes | readLoose | setNotices =>
    cases hlink
    rfl
  | roll | cut | close | void | rate | readTake | collect =>
    cases hlink
    simp [requestFrame, decodeRequest, allowedLengths]
  | setHouse | setReference | setInput | mark | setSlate | setFlash | setLink =>
    cases hlink
    simp [requestFrame, decodeRequest, allowedLengths, numberAt]
  | setOutput k lane kind fields =>
    cases hlink
    exact setOutput_readsBack l lane kind fields
  | arm k scene shot number flags count slots =>
    cases hlink
    simp only [Instr.wellFormed, Bool.and_eq_true, beq_iff_eq, and_assoc] at hwf
    obtain ⟨hscene, hshot, hslots⟩ := hwf
    exact arm_readsBack l number flags count hscene hshot hslots
  | convert k direction a value b =>
    cases hlink
    obtain ⟨ha, hb⟩ := Bool.and_eq_true_iff.mp hwf
    exact convert_readsBack l direction value ha hb
  | _ => cases hlink

namespace Machine

/-! ### Fields of a frame word (11.1, R181) -/

@[simp] theorem wordSync_wordOfFields (f : WordFields) : wordSync (wordOfFields f) = syncPattern := by
  rw [wordSync, wordOfFields, BitVec.extractLsb'_append_eq_of_le (by decide), BitVec.extractLsb'_append_eq_left]

@[simp] theorem wordBits_wordOfFields (f : WordFields) : wordBits (wordOfFields f) = bitsOfFields f := by
  rw [wordBits, wordOfFields, BitVec.extractLsb'_append_eq_of_le (by decide), BitVec.extractLsb'_append_eq_right]

@[simp] theorem wordCheck_wordOfFields (f : WordFields) : wordCheck (wordOfFields f) = crc8 (bitsOfFields f) := by
  rw [wordCheck, wordOfFields, BitVec.extractLsb'_append_eq_right]

@[simp] theorem getLsbD_flagBit (b : Bool) : (flagBit b).getLsbD 0 = b := by cases b <;> rfl

theorem fieldsOfBits_bitsOfFields {f : WordFields} (hhh : f.label.hh < 32) (hmm : f.label.mm < 64) (hss : f.label.ss < 64)
    (hff : f.label.ff < 64) (hclass : f.rateClass < 16) : fieldsOfBits (bitsOfFields f) = f := by
  obtain ⟨⟨hh, mm, ss, ff⟩, drop, run, clap, cls, user⟩ := f
  simp only [fieldsOfBits, bitsOfFields, BitVec.extractLsb'_append_eq_of_le, BitVec.extractLsb'_append_eq_right,
    BitVec.extractLsb'_eq_self, BitVec.getLsbD_append, getLsbD_flagBit, BitVec.toNat_ofNat, Nat.reduceLeDiff, Nat.reduceSub,
    Nat.reduceLT, Nat.reducePow, reduceIte, WordFields.mk.injEq, Label.mk.injEq, and_true, true_and]
  exact ⟨⟨Nat.mod_eq_of_lt hhh, Nat.mod_eq_of_lt hmm, Nat.mod_eq_of_lt hss, Nat.mod_eq_of_lt hff⟩, Nat.mod_eq_of_lt hclass⟩

theorem RateCode.cls_lt (r : RateCode) : r.cls < 16 := by cases r <;> decide

theorem RateCode.base_le (r : RateCode) : r.base ≤ 60 := by cases r <;> decide

/-- R60: the four checks, met. -/
theorem judgeWord_good {set : InSettings} {w : FrameWord} (hcheck : crc8 (wordBits w) = wordCheck w)
    (hclass : (fieldsOfBits (wordBits w)).rateClass = set.rate.cls) (hdrop : (fieldsOfBits (wordBits w)).drop = set.drop)
    (hlabel : labelValid set.rate set.drop (fieldsOfBits (wordBits w)).label = true) : judgeWord set w = .good := by
  simp [judgeWord, hcheck, hclass, hdrop, hlabel]

/-- Settles O13: the fields' bits stand between the sync pattern and the CRC over them, and each field's number fits its bits. -/
theorem composedWordIsGood : Obligations.ComposedWordIsGood := by
  intro set f hlabel hclass hdrop
  obtain ⟨hhh, hmm, hss, hff, -⟩ := (labelValid_iff _ _ _).mp hlabel
  have hbase := set.rate.base_le
  have hcls := set.rate.cls_lt
  have hfields : fieldsOfBits (wordBits (wordOfFields f)) = f := by
    rw [wordBits_wordOfFields]
    exact fieldsOfBits_bitsOfFields (by omega) (by omega) (by omega) (by omega) (by omega)
  have hcheck : crc8 (wordBits (wordOfFields f)) = wordCheck (wordOfFields f) := by
    rw [wordBits_wordOfFields, wordCheck_wordOfFields]
  have hgood : judgeWord set (wordOfFields f) = .good :=
    judgeWord_good hcheck (by rwa [hfields]) (by rwa [hfields]) (by rwa [hfields])
  exact ⟨wordSync_wordOfFields f, hcheck, hgood, hfields⟩

end Machine

end Sys2Proof

/-! PROOFS. A step on a waiting command, and that every command answers a next state with the queue of commands as it was. -/

namespace Sys2Proof.Machine

open Sys2Proof

/-- Settles O1: with a command waiting, a step is its arm for a queue that is not empty. -/
theorem stepTakesFrontCommand : Obligations.StepTakesFrontCommand := by
  intro s c rest hp
  simp only [step, hp]

/-! ### Every command answers a next state (log entries 4, 22) -/

/-- R179: both outcomes of a character sent, the start-up among them, carry the queue on. -/
theorem State.sendChar_pending (s : State) (l : LinkId) : (s.sendChar l).pending = s.pending := by
  unfold State.sendChar
  dsimp only
  split
  · split <;> rfl
  · rfl

/-- Log entry 4: an event answers a next state, in its condition or out of it; a block's event leaves the queue as it leaves the
links, and a link's event acts on that link alone. -/
theorem exec_event_keepsPending {c : Instr} (hc : requestLink c = none) (s : State) :
    ∃ t, exec c s = .next t ∧ t.pending = s.pending := by
  have hblock {t : State} (ht : s.KeepsLinks t) (hexec : exec c s = .next t) : ∃ t, exec c s = .next t ∧ t.pending = s.pending :=
    ⟨t, hexec, ht.pending⟩
  cases c with
  | startUp => exact ⟨s.startUp, rfl, rfl⟩
  | characterSent l => exact ⟨s.sendChar l, rfl, s.sendChar_pending l⟩
  | characterReceived l | lineBreak l | breakEnd l | characterTaken l | silenceTimerExpiry l | assemblerRefusal l | feederCharacter l
  | noticeFed l | pauseAsserted l | pauseReleased l | batchExpiry l => exact ⟨s.modLink l _, rfl, s.modLink_pending l _⟩
  | referenceEdge => exact hblock (.ite .takeEdge (.refl s)) rfl
  | lossExpiry => exact hblock (.ite .enterHoldover (.refl s)) rfl
  | staleExpiry => exact hblock (.ite (.trans .of_eq .reportReference) (.refl s)) rfl
  | pendingChangeDue => exact hblock (.ite .fallDueChange (.refl s)) rfl
  | wordArrival i w => exact hblock .wordArrives rfl
  | pulseEdge i => exact hblock .edgeArrives rfl
  | silenceExpiry i => exact hblock (.ite .goSilent (.refl s)) rfl
  | wordComposition o => exact hblock (.ite .composeWord (.refl s)) rfl
  | writeEnd => exact hblock (.ite .endWrite (.refl s)) rfl
  | debounceExpiry =>
    refine hblock ?_ rfl
    split
    · exact .ite (.trans .of_eq .presentClap) (.refl s)
    · exact .refl s
    · exact .refl s
  | houseFull | missingExpiry _ | effectBoundary _ | pulseStart _ | pulseEnd _ | wordclockRise _ | wordclockFall _ | contactClose
  | burstStep | burstEnd | holdEnd => exact hblock (.ite .of_eq (.refl s)) rfl
  | contactOpen => exact hblock .of_eq rfl
  | _ => exact nomatch hc

/-- Settles O3: a request's block keeps the queue, so taking, holding or passing over the request does; an event keeps it arm by arm. -/
theorem everyCommandCompletes : Obligations.EveryCommandCompletes := by
  intro c s
  cases hc : requestLink c with
  | none => exact exec_event_keepsPending hc s
  | some l =>
    obtain ⟨act, hact, htake⟩ := exec_of_requestLink hc
    exact ⟨takeRequest l c act s, htake s, takeRequest_pending (fun u => (hact u).keeps.pending) s⟩

end Sys2Proof.Machine
